-- ==== Sys2Proof/Word.lean ====
section
/-! DEFINITION. The two widths of the core (00_scope.md rule R6): the byte of a register or of memory, and the
16-bit word of the program counter, the stack pointer, a register pair or an address. -/

namespace Sys2Proof

/-- A u8 (00_scope.md rule R8). -/
abbrev Byte := BitVec 8

/-- A u16 (00_scope.md rule R8). -/
abbrev Word := BitVec 16

end Sys2Proof
end

