-- ==== Sys2Proof/Config.lean ====
section
/-! DEFINITION. The one parameter of 00_scope.md rule R7 that a step reads, `STOP_LENGTH`. The others are launch
parameters (`RESET_REGS`, `SP_RESET`, `CART`, `BOOT_VRAM`: arguments of `Machine.launch`) or the host's schedule
(`HOST`: the event list of Machine/Run.lean). -/

namespace Sys2Proof

/-- The allowed values of `STOP_LENGTH`, the encoded width of STOP (00_scope.md rule R7, 92_eei_decisions.md D12). -/
inductive StopLength where
  | one
  | two
  deriving DecidableEq, Repr

/-- The width in bytes. -/
def StopLength.bytes : StopLength → Nat
  | .one => 1
  | .two => 2

/-- What one machine fixes for its whole life; `State` carries it and no instruction writes it. -/
structure Config where
  stopLength : StopLength
  deriving DecidableEq, Repr

/-- The spec's own default, `STOP_LENGTH` = 2 (92_eei_decisions.md D12). -/
def Config.default : Config := ⟨.two⟩

end Sys2Proof
end

