-- ==== Sys2Proof/Fields.lean ====
section
/-! DEFINITION. The operand designators of the instruction set (00_scope.md rules R13 and R16, 30_encoding.md rule
R81): closed sets of names, with the numeric code the opcode byte's fields give each. -/

namespace Sys2Proof

/-- The seven 8-bit registers a 3-bit register field reaches (R13, codes 0 to 5 and 7). -/
inductive Reg8 where
  | b | c | d | e | h | l | a
  deriving DecidableEq, Repr

/-- What a 3-bit register field names (R13): a register, or with code 6 the byte at HL. -/
inductive Operand8 where
  | reg (r : Reg8)
  | indHl
  deriving DecidableEq, Repr

/-- The sources of an 8-bit operation (40_arith_logic.md rule R100): a register, the byte at HL, an immediate. -/
inductive Src8 where
  | reg (r : Reg8)
  | indHl
  | imm (n : Byte)
  deriving DecidableEq, Repr

/-- `rp(p)` (R13). -/
inductive Pair where
  | bc | de | hl | sp
  deriving DecidableEq, Repr

/-- `rp2(p)`, the pairs of PUSH and POP (R13). -/
inductive StackPair where
  | bc | de | hl | af
  deriving DecidableEq, Repr

/-- `cond(q)` (R13): NZ, Z, NC, C. -/
inductive Cond where
  | nz | z | nc | c
  deriving DecidableEq, Repr

/-- The 8-bit ALU operations in the order of field y (R81). -/
inductive AluOp where
  | add | adc | sub | sbc | and | xor | or | cp
  deriving DecidableEq, Repr

/-- The prefixed rotates and shifts in the order of field y (R81). -/
inductive ShiftOp where
  | rlc | rrc | rl | rr | sla | sra | swap | srl
  deriving DecidableEq, Repr

/-- The addressing modes of the accumulator's loads and stores (43_load_store.md rule R208). -/
inductive AddrMode where
  | indBc
  | indDe
  | hlInc
  | hlDec
  | zeroPage (a8 : Byte)
  | zeroPageC
  | abs (a16 : Word)
  deriving DecidableEq, Repr

/-- The four condition flags (10_state.md rule R21). -/
inductive Flag where
  | z | n | h | c
  deriving DecidableEq, Repr

/-- The number a register field holds for a register (R81). -/
def Reg8.code : Reg8 → Nat
  | .b => 0 | .c => 1 | .d => 2 | .e => 3 | .h => 4 | .l => 5 | .a => 7

/-- The number a register field holds for an operand: 6 is the byte at HL (R81). -/
def Operand8.code : Operand8 → Nat
  | .reg r => r.code
  | .indHl => 6

/-- The pair code `rp` (R81). -/
def Pair.code : Pair → Nat
  | .bc => 0 | .de => 1 | .hl => 2 | .sp => 3

/-- The pair code `rp2` (R81). -/
def StackPair.code : StackPair → Nat
  | .bc => 0 | .de => 1 | .hl => 2 | .af => 3

/-- The condition code (R81). -/
def Cond.code : Cond → Nat
  | .nz => 0 | .z => 1 | .nc => 2 | .c => 3

/-- Field y of an 8-bit ALU operation (R81). -/
def AluOp.code : AluOp → Nat
  | .add => 0 | .adc => 1 | .sub => 2 | .sbc => 3 | .and => 4 | .xor => 5 | .or => 6 | .cp => 7

/-- Field y of a prefixed rotate or shift (R81). -/
def ShiftOp.code : ShiftOp → Nat
  | .rlc => 0 | .rrc => 1 | .rl => 2 | .rr => 3 | .sla => 4 | .sra => 5 | .swap => 6 | .srl => 7

end Sys2Proof
end

