-- ==== Sys2Proof/Syntax.lean ====
section
/-! DEFINITION. The instructions: one constructor per mnemonic of spec/opcode_table.json, group by group of the
maps of 30_encoding.md rules R84 and R85 (the eleven ILLEGAL rows are one constructor that holds the byte; the groups
with operands come first). A constructor's name spells the mnemonic: `IndHl` is
(HL), `Hli` and `Hld` are (HL+) and (HL-), `D8`, `D16`, `A16`, `E8` are immediates; `n` is an unsigned imm8, `e` a
byte read as signed, `nn` an imm16 (30_encoding.md rules R80 and R82). -/

namespace Sys2Proof

/-- The instruction set. `prefixCb` is the row PREFIX CB, the prefix with the byte that follows it: another spelling
of a secondary instruction, which the decoder never yields (30_encoding.md rule R89). `illegal` holds one of the
eleven bytes of rule R86. The operand of `stop` is the byte that STOP ignores (45_flag_misc.md rule R252). -/
inductive Instr where
  -- x = 0 of the primary map (R84): miscellaneous, 16-bit loads, INC, DEC, immediate loads, accumulator rotates
  | nop | ldBcD16 (nn : Word) | ldIndBcA | incBc | incB | decB | ldBD8 (n : Byte) | rlca
  | ldIndA16Sp (nn : Word) | addHlBc | ldAIndBc | decBc | incC | decC | ldCD8 (n : Byte) | rrca
  | stop (n : Byte) | ldDeD16 (nn : Word) | ldIndDeA | incDe | incD | decD | ldDD8 (n : Byte) | rla
  | jrE8 (e : Byte) | addHlDe | ldAIndDe | decDe | incE | decE | ldED8 (n : Byte) | rra | jrNzE8 (e : Byte)
  | ldHlD16 (nn : Word) | ldHliA | incHl | incH | decH | ldHD8 (n : Byte) | daa | jrZE8 (e : Byte) | addHlHl
  | ldAHli | decHl | incL | decL | ldLD8 (n : Byte) | cpl | jrNcE8 (e : Byte) | ldSpD16 (nn : Word) | ldHldA
  | incSp | incIndHl | decIndHl | ldIndHlD8 (n : Byte) | scf | jrCE8 (e : Byte) | addHlSp | ldAHld | decSp
  | incA | decA | ldAD8 (n : Byte) | ccf
  -- x = 3: control flow, stack, ALU d8, RST, high-page loads, the prefix and the illegal bytes
  | retNz | popBc | jpNzA16 (nn : Word) | jpA16 (nn : Word) | callNzA16 (nn : Word) | pushBc
  | addAD8 (n : Byte) | rst00 | retZ | ret | jpZA16 (nn : Word) | prefixCb (cbop : Byte) | callZA16 (nn : Word)
  | callA16 (nn : Word) | adcAD8 (n : Byte) | rst08 | retNc | popDe | jpNcA16 (nn : Word) | illegal (op : Byte)
  | callNcA16 (nn : Word) | pushDe | subD8 (n : Byte) | rst10 | retC | reti | jpCA16 (nn : Word)
  | callCA16 (nn : Word) | sbcAD8 (n : Byte) | rst18 | ldhIndA8A (n : Byte) | popHl | ldIndCA | pushHl
  | andD8 (n : Byte) | rst20 | addSpE8 (e : Byte) | jpHl | ldIndA16A (nn : Word) | xorD8 (n : Byte) | rst28
  | ldhAIndA8 (n : Byte) | popAf | ldAIndC | di | pushAf | orD8 (n : Byte) | rst30 | ldHlSpE8 (e : Byte)
  | ldSpHl | ldAIndA16 (nn : Word) | ei | cpD8 (n : Byte) | rst38
  -- x = 1: LD r,r' and HALT
  | ldBB | ldBC | ldBD | ldBE | ldBH | ldBL | ldBIndHl | ldBA | ldCB | ldCC | ldCD | ldCE | ldCH | ldCL
  | ldCIndHl | ldCA | ldDB | ldDC | ldDD | ldDE | ldDH | ldDL | ldDIndHl | ldDA | ldEB | ldEC | ldED | ldEE
  | ldEH | ldEL | ldEIndHl | ldEA | ldHB | ldHC | ldHD | ldHE | ldHH | ldHL | ldHIndHl | ldHA | ldLB | ldLC
  | ldLD | ldLE | ldLH | ldLL | ldLIndHl | ldLA | ldIndHlB | ldIndHlC | ldIndHlD | ldIndHlE | ldIndHlH
  | ldIndHlL | halt | ldIndHlA | ldAB | ldAC | ldAD | ldAE | ldAH | ldAL | ldAIndHl | ldAA
  -- x = 2: the 8-bit ALU on a register or the byte at HL
  | addAB | addAC | addAD | addAE | addAH | addAL | addAIndHl | addAA | adcAB | adcAC | adcAD | adcAE | adcAH
  | adcAL | adcAIndHl | adcAA | subB | subC | subD | subE | subH | subL | subIndHl | subA | sbcAB | sbcAC
  | sbcAD | sbcAE | sbcAH | sbcAL | sbcAIndHl | sbcAA | andB | andC | andD | andE | andH | andL | andIndHl
  | andA | xorB | xorC | xorD | xorE | xorH | xorL | xorIndHl | xorA | orB | orC | orD | orE | orH | orL
  | orIndHl | orA | cpB | cpC | cpD | cpE | cpH | cpL | cpIndHl | cpA
  -- x = 0 of the secondary map (R85): rotates and shifts
  | rlcB | rlcC | rlcD | rlcE | rlcH | rlcL | rlcIndHl | rlcA | rrcB | rrcC | rrcD | rrcE | rrcH | rrcL
  | rrcIndHl | rrcA | rlB | rlC | rlD | rlE | rlH | rlL | rlIndHl | rlA | rrB | rrC | rrD | rrE | rrH | rrL
  | rrIndHl | rrA | slaB | slaC | slaD | slaE | slaH | slaL | slaIndHl | slaA | sraB | sraC | sraD | sraE
  | sraH | sraL | sraIndHl | sraA | swapB | swapC | swapD | swapE | swapH | swapL | swapIndHl | swapA | srlB
  | srlC | srlD | srlE | srlH | srlL | srlIndHl | srlA
  -- x = 1: BIT
  | bit0B | bit0C | bit0D | bit0E | bit0H | bit0L | bit0IndHl | bit0A | bit1B | bit1C | bit1D | bit1E | bit1H
  | bit1L | bit1IndHl | bit1A | bit2B | bit2C | bit2D | bit2E | bit2H | bit2L | bit2IndHl | bit2A | bit3B
  | bit3C | bit3D | bit3E | bit3H | bit3L | bit3IndHl | bit3A | bit4B | bit4C | bit4D | bit4E | bit4H | bit4L
  | bit4IndHl | bit4A | bit5B | bit5C | bit5D | bit5E | bit5H | bit5L | bit5IndHl | bit5A | bit6B | bit6C
  | bit6D | bit6E | bit6H | bit6L | bit6IndHl | bit6A | bit7B | bit7C | bit7D | bit7E | bit7H | bit7L
  | bit7IndHl | bit7A
  -- x = 2: RES
  | res0B | res0C | res0D | res0E | res0H | res0L | res0IndHl | res0A | res1B | res1C | res1D | res1E | res1H
  | res1L | res1IndHl | res1A | res2B | res2C | res2D | res2E | res2H | res2L | res2IndHl | res2A | res3B
  | res3C | res3D | res3E | res3H | res3L | res3IndHl | res3A | res4B | res4C | res4D | res4E | res4H | res4L
  | res4IndHl | res4A | res5B | res5C | res5D | res5E | res5H | res5L | res5IndHl | res5A | res6B | res6C
  | res6D | res6E | res6H | res6L | res6IndHl | res6A | res7B | res7C | res7D | res7E | res7H | res7L
  | res7IndHl | res7A
  -- x = 3: SET
  | set0B | set0C | set0D | set0E | set0H | set0L | set0IndHl | set0A | set1B | set1C | set1D | set1E | set1H
  | set1L | set1IndHl | set1A | set2B | set2C | set2D | set2E | set2H | set2L | set2IndHl | set2A | set3B
  | set3C | set3D | set3E | set3H | set3L | set3IndHl | set3A | set4B | set4C | set4D | set4E | set4H | set4L
  | set4IndHl | set4A | set5B | set5C | set5D | set5E | set5H | set5L | set5IndHl | set5A | set6B | set6C
  | set6D | set6E | set6H | set6L | set6IndHl | set6A | set7B | set7C | set7D | set7E | set7H | set7L
  | set7IndHl | set7A
  deriving DecidableEq, Repr

end Sys2Proof
end

