-- ==== Sys2Proof/WellFormed.lean ====
section
/-! DEFINITION. Which instruction terms are instructions of this hardware. Every operand value of every other
constructor is legal, because a field of the encoding holds exactly its operand type. -/

namespace Sys2Proof

/-- ILLEGAL, the eleven primary bytes that select no instruction (30_encoding.md rule R86). -/
def illegalBytes : List Byte :=
  [0xD3, 0xDB, 0xDD, 0xE3, 0xE4, 0xEB, 0xEC, 0xED, 0xF4, 0xFC, 0xFD]

/-- An `illegal` term holds one of the eleven bytes; `prefixCb` is never a whole instruction of its own, since its
two bytes are those of a secondary instruction (rules R84, R85 and R89). -/
def Instr.wf : Instr → Bool
  | .illegal op => illegalBytes.contains op
  | .prefixCb _ => false
  | .nop | .ldBcD16 _ | .ldIndBcA | .incBc | .incB | .decB | .ldBD8 _ | .rlca | .ldIndA16Sp _ | .addHlBc
  | .ldAIndBc | .decBc | .incC | .decC | .ldCD8 _ | .rrca | .stop _ | .ldDeD16 _ | .ldIndDeA | .incDe | .incD
  | .decD | .ldDD8 _ | .rla | .jrE8 _ | .addHlDe | .ldAIndDe | .decDe | .incE | .decE | .ldED8 _ | .rra
  | .jrNzE8 _ | .ldHlD16 _ | .ldHliA | .incHl | .incH | .decH | .ldHD8 _ | .daa | .jrZE8 _ | .addHlHl | .ldAHli
  | .decHl | .incL | .decL | .ldLD8 _ | .cpl | .jrNcE8 _ | .ldSpD16 _ | .ldHldA | .incSp | .incIndHl
  | .decIndHl | .ldIndHlD8 _ | .scf | .jrCE8 _ | .addHlSp | .ldAHld | .decSp | .incA | .decA | .ldAD8 _ | .ccf
  | .ldBB | .ldBC | .ldBD | .ldBE | .ldBH | .ldBL | .ldBIndHl | .ldBA | .ldCB | .ldCC | .ldCD | .ldCE | .ldCH
  | .ldCL | .ldCIndHl | .ldCA | .ldDB | .ldDC | .ldDD | .ldDE | .ldDH | .ldDL | .ldDIndHl | .ldDA | .ldEB
  | .ldEC | .ldED | .ldEE | .ldEH | .ldEL | .ldEIndHl | .ldEA | .ldHB | .ldHC | .ldHD | .ldHE | .ldHH | .ldHL
  | .ldHIndHl | .ldHA | .ldLB | .ldLC | .ldLD | .ldLE | .ldLH | .ldLL | .ldLIndHl | .ldLA | .ldIndHlB
  | .ldIndHlC | .ldIndHlD | .ldIndHlE | .ldIndHlH | .ldIndHlL | .halt | .ldIndHlA | .ldAB | .ldAC | .ldAD
  | .ldAE | .ldAH | .ldAL | .ldAIndHl | .ldAA | .addAB | .addAC | .addAD | .addAE | .addAH | .addAL
  | .addAIndHl | .addAA | .adcAB | .adcAC | .adcAD | .adcAE | .adcAH | .adcAL | .adcAIndHl | .adcAA | .subB
  | .subC | .subD | .subE | .subH | .subL | .subIndHl | .subA | .sbcAB | .sbcAC | .sbcAD | .sbcAE | .sbcAH
  | .sbcAL | .sbcAIndHl | .sbcAA | .andB | .andC | .andD | .andE | .andH | .andL | .andIndHl | .andA | .xorB
  | .xorC | .xorD | .xorE | .xorH | .xorL | .xorIndHl | .xorA | .orB | .orC | .orD | .orE | .orH | .orL
  | .orIndHl | .orA | .cpB | .cpC | .cpD | .cpE | .cpH | .cpL | .cpIndHl | .cpA | .retNz | .popBc | .jpNzA16 _
  | .jpA16 _ | .callNzA16 _ | .pushBc | .addAD8 _ | .rst00 | .retZ | .ret | .jpZA16 _ | .callZA16 _
  | .callA16 _ | .adcAD8 _ | .rst08 | .retNc | .popDe | .jpNcA16 _ | .callNcA16 _ | .pushDe | .subD8 _ | .rst10
  | .retC | .reti | .jpCA16 _ | .callCA16 _ | .sbcAD8 _ | .rst18 | .ldhIndA8A _ | .popHl | .ldIndCA | .pushHl
  | .andD8 _ | .rst20 | .addSpE8 _ | .jpHl | .ldIndA16A _ | .xorD8 _ | .rst28 | .ldhAIndA8 _ | .popAf
  | .ldAIndC | .di | .pushAf | .orD8 _ | .rst30 | .ldHlSpE8 _ | .ldSpHl | .ldAIndA16 _ | .ei | .cpD8 _ | .rst38
  | .rlcB | .rlcC | .rlcD | .rlcE | .rlcH | .rlcL | .rlcIndHl | .rlcA | .rrcB | .rrcC | .rrcD | .rrcE | .rrcH
  | .rrcL | .rrcIndHl | .rrcA | .rlB | .rlC | .rlD | .rlE | .rlH | .rlL | .rlIndHl | .rlA | .rrB | .rrC | .rrD
  | .rrE | .rrH | .rrL | .rrIndHl | .rrA | .slaB | .slaC | .slaD | .slaE | .slaH | .slaL | .slaIndHl | .slaA
  | .sraB | .sraC | .sraD | .sraE | .sraH | .sraL | .sraIndHl | .sraA | .swapB | .swapC | .swapD | .swapE
  | .swapH | .swapL | .swapIndHl | .swapA | .srlB | .srlC | .srlD | .srlE | .srlH | .srlL | .srlIndHl | .srlA
  | .bit0B | .bit0C | .bit0D | .bit0E | .bit0H | .bit0L | .bit0IndHl | .bit0A | .bit1B | .bit1C | .bit1D
  | .bit1E | .bit1H | .bit1L | .bit1IndHl | .bit1A | .bit2B | .bit2C | .bit2D | .bit2E | .bit2H | .bit2L
  | .bit2IndHl | .bit2A | .bit3B | .bit3C | .bit3D | .bit3E | .bit3H | .bit3L | .bit3IndHl | .bit3A | .bit4B
  | .bit4C | .bit4D | .bit4E | .bit4H | .bit4L | .bit4IndHl | .bit4A | .bit5B | .bit5C | .bit5D | .bit5E
  | .bit5H | .bit5L | .bit5IndHl | .bit5A | .bit6B | .bit6C | .bit6D | .bit6E | .bit6H | .bit6L | .bit6IndHl
  | .bit6A | .bit7B | .bit7C | .bit7D | .bit7E | .bit7H | .bit7L | .bit7IndHl | .bit7A | .res0B | .res0C
  | .res0D | .res0E | .res0H | .res0L | .res0IndHl | .res0A | .res1B | .res1C | .res1D | .res1E | .res1H
  | .res1L | .res1IndHl | .res1A | .res2B | .res2C | .res2D | .res2E | .res2H | .res2L | .res2IndHl | .res2A
  | .res3B | .res3C | .res3D | .res3E | .res3H | .res3L | .res3IndHl | .res3A | .res4B | .res4C | .res4D
  | .res4E | .res4H | .res4L | .res4IndHl | .res4A | .res5B | .res5C | .res5D | .res5E | .res5H | .res5L
  | .res5IndHl | .res5A | .res6B | .res6C | .res6D | .res6E | .res6H | .res6L | .res6IndHl | .res6A | .res7B
  | .res7C | .res7D | .res7E | .res7H | .res7L | .res7IndHl | .res7A | .set0B | .set0C | .set0D | .set0E
  | .set0H | .set0L | .set0IndHl | .set0A | .set1B | .set1C | .set1D | .set1E | .set1H | .set1L | .set1IndHl
  | .set1A | .set2B | .set2C | .set2D | .set2E | .set2H | .set2L | .set2IndHl | .set2A | .set3B | .set3C
  | .set3D | .set3E | .set3H | .set3L | .set3IndHl | .set3A | .set4B | .set4C | .set4D | .set4E | .set4H
  | .set4L | .set4IndHl | .set4A | .set5B | .set5C | .set5D | .set5E | .set5H | .set5L | .set5IndHl | .set5A
  | .set6B | .set6C | .set6D | .set6E | .set6H | .set6L | .set6IndHl | .set6A | .set7B | .set7C | .set7D
  | .set7E | .set7H | .set7L | .set7IndHl | .set7A => true

end Sys2Proof
end

