-- ==== Sys2Proof/Decode.lean ====
section
/-! DEFINITION. Decoding and encoding (30_encoding.md). The decoder reads an opcode byte by the fields of rule R81 and
names the instruction they select; the encoder writes the bytes of the table's rows (rules R80, R84 and R85). -/

namespace Sys2Proof

/-! ### Bytes of a word -/

/-- `v[7:0]`. -/
def loByte (v : Word) : Byte := v.setWidth 8

/-- `v[15:8]`. -/
def hiByte (v : Word) : Byte := (v >>> 8).setWidth 8

/-- `hi : lo`, the word with `hi` as its high byte (00_scope.md rule R8). -/
def wordOf (hi lo : Byte) : Word := hi ++ lo

/-! ### Instructions by shape
Each function gives the instruction that one group of the maps (rules R84 and R85) has for its operands. -/

/-- `ALU[y] A,src` for the three sources of 40_arith_logic.md rule R100. -/
def Instr.ofAlu : AluOp → Src8 → Instr
  | .add, .reg .b => .addAB | .add, .reg .c => .addAC | .add, .reg .d => .addAD | .add, .reg .e => .addAE
  | .add, .reg .h => .addAH | .add, .reg .l => .addAL | .add, .indHl => .addAIndHl | .add, .reg .a => .addAA
  | .adc, .reg .b => .adcAB | .adc, .reg .c => .adcAC | .adc, .reg .d => .adcAD | .adc, .reg .e => .adcAE
  | .adc, .reg .h => .adcAH | .adc, .reg .l => .adcAL | .adc, .indHl => .adcAIndHl | .adc, .reg .a => .adcAA
  | .sub, .reg .b => .subB | .sub, .reg .c => .subC | .sub, .reg .d => .subD | .sub, .reg .e => .subE
  | .sub, .reg .h => .subH | .sub, .reg .l => .subL | .sub, .indHl => .subIndHl | .sub, .reg .a => .subA
  | .sbc, .reg .b => .sbcAB | .sbc, .reg .c => .sbcAC | .sbc, .reg .d => .sbcAD | .sbc, .reg .e => .sbcAE
  | .sbc, .reg .h => .sbcAH | .sbc, .reg .l => .sbcAL | .sbc, .indHl => .sbcAIndHl | .sbc, .reg .a => .sbcAA
  | .and, .reg .b => .andB | .and, .reg .c => .andC | .and, .reg .d => .andD | .and, .reg .e => .andE
  | .and, .reg .h => .andH | .and, .reg .l => .andL | .and, .indHl => .andIndHl | .and, .reg .a => .andA
  | .xor, .reg .b => .xorB | .xor, .reg .c => .xorC | .xor, .reg .d => .xorD | .xor, .reg .e => .xorE
  | .xor, .reg .h => .xorH | .xor, .reg .l => .xorL | .xor, .indHl => .xorIndHl | .xor, .reg .a => .xorA
  | .or, .reg .b => .orB | .or, .reg .c => .orC | .or, .reg .d => .orD | .or, .reg .e => .orE
  | .or, .reg .h => .orH | .or, .reg .l => .orL | .or, .indHl => .orIndHl | .or, .reg .a => .orA
  | .cp, .reg .b => .cpB | .cp, .reg .c => .cpC | .cp, .reg .d => .cpD | .cp, .reg .e => .cpE
  | .cp, .reg .h => .cpH | .cp, .reg .l => .cpL | .cp, .indHl => .cpIndHl | .cp, .reg .a => .cpA
  | .add, .imm n => .addAD8 n | .adc, .imm n => .adcAD8 n | .sub, .imm n => .subD8 n
  | .sbc, .imm n => .sbcAD8 n | .and, .imm n => .andD8 n | .xor, .imm n => .xorD8 n | .or, .imm n => .orD8 n
  | .cp, .imm n => .cpD8 n

/-- `LD r,src`: rules R180, R181 and R183 of 43_load_store.md. -/
def Instr.ofLdReg : Reg8 → Src8 → Instr
  | .b, .reg .b => .ldBB | .b, .reg .c => .ldBC | .b, .reg .d => .ldBD | .b, .reg .e => .ldBE
  | .b, .reg .h => .ldBH | .b, .reg .l => .ldBL | .b, .indHl => .ldBIndHl | .b, .reg .a => .ldBA
  | .c, .reg .b => .ldCB | .c, .reg .c => .ldCC | .c, .reg .d => .ldCD | .c, .reg .e => .ldCE
  | .c, .reg .h => .ldCH | .c, .reg .l => .ldCL | .c, .indHl => .ldCIndHl | .c, .reg .a => .ldCA
  | .d, .reg .b => .ldDB | .d, .reg .c => .ldDC | .d, .reg .d => .ldDD | .d, .reg .e => .ldDE
  | .d, .reg .h => .ldDH | .d, .reg .l => .ldDL | .d, .indHl => .ldDIndHl | .d, .reg .a => .ldDA
  | .e, .reg .b => .ldEB | .e, .reg .c => .ldEC | .e, .reg .d => .ldED | .e, .reg .e => .ldEE
  | .e, .reg .h => .ldEH | .e, .reg .l => .ldEL | .e, .indHl => .ldEIndHl | .e, .reg .a => .ldEA
  | .h, .reg .b => .ldHB | .h, .reg .c => .ldHC | .h, .reg .d => .ldHD | .h, .reg .e => .ldHE
  | .h, .reg .h => .ldHH | .h, .reg .l => .ldHL | .h, .indHl => .ldHIndHl | .h, .reg .a => .ldHA
  | .l, .reg .b => .ldLB | .l, .reg .c => .ldLC | .l, .reg .d => .ldLD | .l, .reg .e => .ldLE
  | .l, .reg .h => .ldLH | .l, .reg .l => .ldLL | .l, .indHl => .ldLIndHl | .l, .reg .a => .ldLA
  | .a, .reg .b => .ldAB | .a, .reg .c => .ldAC | .a, .reg .d => .ldAD | .a, .reg .e => .ldAE
  | .a, .reg .h => .ldAH | .a, .reg .l => .ldAL | .a, .indHl => .ldAIndHl | .a, .reg .a => .ldAA
  | .b, .imm n => .ldBD8 n | .c, .imm n => .ldCD8 n | .d, .imm n => .ldDD8 n | .e, .imm n => .ldED8 n
  | .h, .imm n => .ldHD8 n | .l, .imm n => .ldLD8 n | .a, .imm n => .ldAD8 n

/-- `LD (HL),r` (R182). -/
def Instr.ofLdIndHl : Reg8 → Instr
  | .b => .ldIndHlB | .c => .ldIndHlC | .d => .ldIndHlD | .e => .ldIndHlE | .h => .ldIndHlH | .l => .ldIndHlL
  | .a => .ldIndHlA

/-- `INC` on a register or the byte at HL (R140 and R141). -/
def Instr.ofInc8 : Operand8 → Instr
  | .reg .b => .incB | .reg .c => .incC | .reg .d => .incD | .reg .e => .incE | .reg .h => .incH
  | .reg .l => .incL | .indHl => .incIndHl | .reg .a => .incA

/-- `DEC` on a register or the byte at HL (R142 and R143). -/
def Instr.ofDec8 : Operand8 → Instr
  | .reg .b => .decB | .reg .c => .decC | .reg .d => .decD | .reg .e => .decE | .reg .h => .decH
  | .reg .l => .decL | .indHl => .decIndHl | .reg .a => .decA

/-- `INC rr` (R144). -/
def Instr.ofInc16 : Pair → Instr
  | .bc => .incBc | .de => .incDe | .hl => .incHl | .sp => .incSp

/-- `DEC rr` (R145). -/
def Instr.ofDec16 : Pair → Instr
  | .bc => .decBc | .de => .decDe | .hl => .decHl | .sp => .decSp

/-- `ADD HL,rr` (R131). -/
def Instr.ofAddHl : Pair → Instr
  | .bc => .addHlBc | .de => .addHlDe | .hl => .addHlHl | .sp => .addHlSp

/-- `LD rr,d16` (R185). -/
def Instr.ofLdPair : Pair → Word → Instr
  | .bc, nn => .ldBcD16 nn | .de, nn => .ldDeD16 nn | .hl, nn => .ldHlD16 nn | .sp, nn => .ldSpD16 nn

/-- `PUSH rr` (R205). -/
def Instr.ofPush : StackPair → Instr
  | .bc => .pushBc | .de => .pushDe | .hl => .pushHl | .af => .pushAf

/-- `POP rr` (R206 and R207). -/
def Instr.ofPop : StackPair → Instr
  | .bc => .popBc | .de => .popDe | .hl => .popHl | .af => .popAf

/-- The stores of A (R186, R187, R190, R191, R194, R196, R198). -/
def Instr.ofStoreA : AddrMode → Instr
  | .indBc => .ldIndBcA | .indDe => .ldIndDeA | .hlInc => .ldHliA | .hlDec => .ldHldA
  | .zeroPage n => .ldhIndA8A n | .zeroPageC => .ldIndCA | .abs nn => .ldIndA16A nn

/-- The loads of A (R188, R189, R192, R193, R195, R197, R199). -/
def Instr.ofLoadA : AddrMode → Instr
  | .indBc => .ldAIndBc | .indDe => .ldAIndDe | .hlInc => .ldAHli | .hlDec => .ldAHld
  | .zeroPage n => .ldhAIndA8 n | .zeroPageC => .ldAIndC | .abs nn => .ldAIndA16 nn

/-- `JP cc,a16` (44_control_flow.md rule R221). -/
def Instr.ofJpCond : Cond → Word → Instr
  | .nz, nn => .jpNzA16 nn | .z, nn => .jpZA16 nn | .nc, nn => .jpNcA16 nn | .c, nn => .jpCA16 nn

/-- `JR cc,e8` (R224). -/
def Instr.ofJrCond : Cond → Byte → Instr
  | .nz, e => .jrNzE8 e | .z, e => .jrZE8 e | .nc, e => .jrNcE8 e | .c, e => .jrCE8 e

/-- `CALL cc,a16` (R226). -/
def Instr.ofCallCond : Cond → Word → Instr
  | .nz, nn => .callNzA16 nn | .z, nn => .callZA16 nn | .nc, nn => .callNcA16 nn | .c, nn => .callCA16 nn

/-- `RET cc` (R228). -/
def Instr.ofRetCond : Cond → Instr
  | .nz => .retNz | .z => .retZ | .nc => .retNc | .c => .retC

/-- `RST n`, the target being `8 * y` (R230). -/
def Instr.ofRst : Fin 8 → Instr
  | 0 => .rst00 | 1 => .rst08 | 2 => .rst10 | 3 => .rst18 | 4 => .rst20 | 5 => .rst28 | 6 => .rst30
  | 7 => .rst38

/-- The prefixed rotates and shifts (42_bit_rotate_shift.md rules R152 to R167). -/
def Instr.ofShift : ShiftOp → Operand8 → Instr
  | .rlc, .reg .b => .rlcB | .rlc, .reg .c => .rlcC | .rlc, .reg .d => .rlcD | .rlc, .reg .e => .rlcE
  | .rlc, .reg .h => .rlcH | .rlc, .reg .l => .rlcL | .rlc, .indHl => .rlcIndHl | .rlc, .reg .a => .rlcA
  | .rrc, .reg .b => .rrcB | .rrc, .reg .c => .rrcC | .rrc, .reg .d => .rrcD | .rrc, .reg .e => .rrcE
  | .rrc, .reg .h => .rrcH | .rrc, .reg .l => .rrcL | .rrc, .indHl => .rrcIndHl | .rrc, .reg .a => .rrcA
  | .rl, .reg .b => .rlB | .rl, .reg .c => .rlC | .rl, .reg .d => .rlD | .rl, .reg .e => .rlE
  | .rl, .reg .h => .rlH | .rl, .reg .l => .rlL | .rl, .indHl => .rlIndHl | .rl, .reg .a => .rlA
  | .rr, .reg .b => .rrB | .rr, .reg .c => .rrC | .rr, .reg .d => .rrD | .rr, .reg .e => .rrE
  | .rr, .reg .h => .rrH | .rr, .reg .l => .rrL | .rr, .indHl => .rrIndHl | .rr, .reg .a => .rrA
  | .sla, .reg .b => .slaB | .sla, .reg .c => .slaC | .sla, .reg .d => .slaD | .sla, .reg .e => .slaE
  | .sla, .reg .h => .slaH | .sla, .reg .l => .slaL | .sla, .indHl => .slaIndHl | .sla, .reg .a => .slaA
  | .sra, .reg .b => .sraB | .sra, .reg .c => .sraC | .sra, .reg .d => .sraD | .sra, .reg .e => .sraE
  | .sra, .reg .h => .sraH | .sra, .reg .l => .sraL | .sra, .indHl => .sraIndHl | .sra, .reg .a => .sraA
  | .swap, .reg .b => .swapB | .swap, .reg .c => .swapC | .swap, .reg .d => .swapD | .swap, .reg .e => .swapE
  | .swap, .reg .h => .swapH | .swap, .reg .l => .swapL | .swap, .indHl => .swapIndHl
  | .swap, .reg .a => .swapA | .srl, .reg .b => .srlB | .srl, .reg .c => .srlC | .srl, .reg .d => .srlD
  | .srl, .reg .e => .srlE | .srl, .reg .h => .srlH | .srl, .reg .l => .srlL | .srl, .indHl => .srlIndHl
  | .srl, .reg .a => .srlA

/-- `BIT b,r` and `BIT b,(HL)` (R168 and R169). -/
def Instr.ofBit : Fin 8 → Operand8 → Instr
  | 0, .reg .b => .bit0B | 0, .reg .c => .bit0C | 0, .reg .d => .bit0D | 0, .reg .e => .bit0E
  | 0, .reg .h => .bit0H | 0, .reg .l => .bit0L | 0, .indHl => .bit0IndHl | 0, .reg .a => .bit0A
  | 1, .reg .b => .bit1B | 1, .reg .c => .bit1C | 1, .reg .d => .bit1D | 1, .reg .e => .bit1E
  | 1, .reg .h => .bit1H | 1, .reg .l => .bit1L | 1, .indHl => .bit1IndHl | 1, .reg .a => .bit1A
  | 2, .reg .b => .bit2B | 2, .reg .c => .bit2C | 2, .reg .d => .bit2D | 2, .reg .e => .bit2E
  | 2, .reg .h => .bit2H | 2, .reg .l => .bit2L | 2, .indHl => .bit2IndHl | 2, .reg .a => .bit2A
  | 3, .reg .b => .bit3B | 3, .reg .c => .bit3C | 3, .reg .d => .bit3D | 3, .reg .e => .bit3E
  | 3, .reg .h => .bit3H | 3, .reg .l => .bit3L | 3, .indHl => .bit3IndHl | 3, .reg .a => .bit3A
  | 4, .reg .b => .bit4B | 4, .reg .c => .bit4C | 4, .reg .d => .bit4D | 4, .reg .e => .bit4E
  | 4, .reg .h => .bit4H | 4, .reg .l => .bit4L | 4, .indHl => .bit4IndHl | 4, .reg .a => .bit4A
  | 5, .reg .b => .bit5B | 5, .reg .c => .bit5C | 5, .reg .d => .bit5D | 5, .reg .e => .bit5E
  | 5, .reg .h => .bit5H | 5, .reg .l => .bit5L | 5, .indHl => .bit5IndHl | 5, .reg .a => .bit5A
  | 6, .reg .b => .bit6B | 6, .reg .c => .bit6C | 6, .reg .d => .bit6D | 6, .reg .e => .bit6E
  | 6, .reg .h => .bit6H | 6, .reg .l => .bit6L | 6, .indHl => .bit6IndHl | 6, .reg .a => .bit6A
  | 7, .reg .b => .bit7B | 7, .reg .c => .bit7C | 7, .reg .d => .bit7D | 7, .reg .e => .bit7E
  | 7, .reg .h => .bit7H | 7, .reg .l => .bit7L | 7, .indHl => .bit7IndHl | 7, .reg .a => .bit7A

/-- `RES b,r` and `RES b,(HL)` (R170 and R171). -/
def Instr.ofRes : Fin 8 → Operand8 → Instr
  | 0, .reg .b => .res0B | 0, .reg .c => .res0C | 0, .reg .d => .res0D | 0, .reg .e => .res0E
  | 0, .reg .h => .res0H | 0, .reg .l => .res0L | 0, .indHl => .res0IndHl | 0, .reg .a => .res0A
  | 1, .reg .b => .res1B | 1, .reg .c => .res1C | 1, .reg .d => .res1D | 1, .reg .e => .res1E
  | 1, .reg .h => .res1H | 1, .reg .l => .res1L | 1, .indHl => .res1IndHl | 1, .reg .a => .res1A
  | 2, .reg .b => .res2B | 2, .reg .c => .res2C | 2, .reg .d => .res2D | 2, .reg .e => .res2E
  | 2, .reg .h => .res2H | 2, .reg .l => .res2L | 2, .indHl => .res2IndHl | 2, .reg .a => .res2A
  | 3, .reg .b => .res3B | 3, .reg .c => .res3C | 3, .reg .d => .res3D | 3, .reg .e => .res3E
  | 3, .reg .h => .res3H | 3, .reg .l => .res3L | 3, .indHl => .res3IndHl | 3, .reg .a => .res3A
  | 4, .reg .b => .res4B | 4, .reg .c => .res4C | 4, .reg .d => .res4D | 4, .reg .e => .res4E
  | 4, .reg .h => .res4H | 4, .reg .l => .res4L | 4, .indHl => .res4IndHl | 4, .reg .a => .res4A
  | 5, .reg .b => .res5B | 5, .reg .c => .res5C | 5, .reg .d => .res5D | 5, .reg .e => .res5E
  | 5, .reg .h => .res5H | 5, .reg .l => .res5L | 5, .indHl => .res5IndHl | 5, .reg .a => .res5A
  | 6, .reg .b => .res6B | 6, .reg .c => .res6C | 6, .reg .d => .res6D | 6, .reg .e => .res6E
  | 6, .reg .h => .res6H | 6, .reg .l => .res6L | 6, .indHl => .res6IndHl | 6, .reg .a => .res6A
  | 7, .reg .b => .res7B | 7, .reg .c => .res7C | 7, .reg .d => .res7D | 7, .reg .e => .res7E
  | 7, .reg .h => .res7H | 7, .reg .l => .res7L | 7, .indHl => .res7IndHl | 7, .reg .a => .res7A

/-- `SET b,r` and `SET b,(HL)` (R172 and R173). -/
def Instr.ofSet : Fin 8 → Operand8 → Instr
  | 0, .reg .b => .set0B | 0, .reg .c => .set0C | 0, .reg .d => .set0D | 0, .reg .e => .set0E
  | 0, .reg .h => .set0H | 0, .reg .l => .set0L | 0, .indHl => .set0IndHl | 0, .reg .a => .set0A
  | 1, .reg .b => .set1B | 1, .reg .c => .set1C | 1, .reg .d => .set1D | 1, .reg .e => .set1E
  | 1, .reg .h => .set1H | 1, .reg .l => .set1L | 1, .indHl => .set1IndHl | 1, .reg .a => .set1A
  | 2, .reg .b => .set2B | 2, .reg .c => .set2C | 2, .reg .d => .set2D | 2, .reg .e => .set2E
  | 2, .reg .h => .set2H | 2, .reg .l => .set2L | 2, .indHl => .set2IndHl | 2, .reg .a => .set2A
  | 3, .reg .b => .set3B | 3, .reg .c => .set3C | 3, .reg .d => .set3D | 3, .reg .e => .set3E
  | 3, .reg .h => .set3H | 3, .reg .l => .set3L | 3, .indHl => .set3IndHl | 3, .reg .a => .set3A
  | 4, .reg .b => .set4B | 4, .reg .c => .set4C | 4, .reg .d => .set4D | 4, .reg .e => .set4E
  | 4, .reg .h => .set4H | 4, .reg .l => .set4L | 4, .indHl => .set4IndHl | 4, .reg .a => .set4A
  | 5, .reg .b => .set5B | 5, .reg .c => .set5C | 5, .reg .d => .set5D | 5, .reg .e => .set5E
  | 5, .reg .h => .set5H | 5, .reg .l => .set5L | 5, .indHl => .set5IndHl | 5, .reg .a => .set5A
  | 6, .reg .b => .set6B | 6, .reg .c => .set6C | 6, .reg .d => .set6D | 6, .reg .e => .set6E
  | 6, .reg .h => .set6H | 6, .reg .l => .set6L | 6, .indHl => .set6IndHl | 6, .reg .a => .set6A
  | 7, .reg .b => .set7B | 7, .reg .c => .set7C | 7, .reg .d => .set7D | 7, .reg .e => .set7E
  | 7, .reg .h => .set7H | 7, .reg .l => .set7L | 7, .indHl => .set7IndHl | 7, .reg .a => .set7A

/-! ### Fields -/

/-- `reg8(k)` (00_scope.md rule R13): code 6 is the byte at HL, every other code a register. -/
def operandOf : Fin 8 → Operand8
  | 0 => .reg .b | 1 => .reg .c | 2 => .reg .d | 3 => .reg .e | 4 => .reg .h | 5 => .reg .l | 6 => .indHl
  | 7 => .reg .a

/-- The operand as a source of an 8-bit operation (R100). -/
def Operand8.toSrc : Operand8 → Src8
  | .reg r => .reg r
  | .indHl => .indHl

/-- `rp(p)` (R13). -/
def pairOf : Fin 4 → Pair
  | 0 => .bc | 1 => .de | 2 => .hl | 3 => .sp

/-- `rp2(p)` (R13). -/
def stackPairOf : Fin 4 → StackPair
  | 0 => .bc | 1 => .de | 2 => .hl | 3 => .af

/-- `cond(q)` (R13). -/
def condOf : Fin 4 → Cond
  | 0 => .nz | 1 => .z | 2 => .nc | 3 => .c

/-- `ALU[y]` (30_encoding.md rule R81). -/
def aluOpOf : Fin 8 → AluOp
  | 0 => .add | 1 => .adc | 2 => .sub | 3 => .sbc | 4 => .and | 5 => .xor | 6 => .or | 7 => .cp

/-- The prefixed shift of field y (R81). -/
def shiftOpOf : Fin 8 → ShiftOp
  | 0 => .rlc | 1 => .rrc | 2 => .rl | 3 => .rr | 4 => .sla | 5 => .sra | 6 => .swap | 7 => .srl

/-- `o[7:6]` (R81). -/
def fieldX (o : Byte) : Fin 4 := ⟨o.toNat / 64 % 4, Nat.mod_lt _ (by decide)⟩

/-- `o[5:3]` (R81). -/
def fieldY (o : Byte) : Fin 8 := ⟨o.toNat / 8 % 8, Nat.mod_lt _ (by decide)⟩

/-- `o[2:0]` (R81). -/
def fieldZ (o : Byte) : Fin 8 := ⟨o.toNat % 8, Nat.mod_lt _ (by decide)⟩

/-- `o[5:4]` (R81). -/
def fieldP (o : Byte) : Fin 4 := ⟨o.toNat / 16 % 4, Nat.mod_lt _ (by decide)⟩

/-- `o[3]` (R81). -/
def fieldQ (o : Byte) : Fin 2 := ⟨o.toNat / 8 % 2, Nat.mod_lt _ (by decide)⟩

/-! ### The decoder -/

/-- Group x = 0 of the primary map (R84): `b1` and `b2` are the two bytes after the opcode byte `o`. -/
def decodeX0 (o b1 b2 : Byte) : Instr :=
  match fieldZ o, fieldY o with
  | 0, 0 => .nop
  | 0, 1 => .ldIndA16Sp (wordOf b2 b1)
  | 0, 2 => .stop b1
  | 0, 3 => .jrE8 b1
  | 0, 4 => .ofJrCond .nz b1
  | 0, 5 => .ofJrCond .z b1
  | 0, 6 => .ofJrCond .nc b1
  | 0, 7 => .ofJrCond .c b1
  | 1, _ =>
    match fieldQ o with
    | 0 => .ofLdPair (pairOf (fieldP o)) (wordOf b2 b1)
    | 1 => .ofAddHl (pairOf (fieldP o))
  | 2, 0 => .ofStoreA .indBc
  | 2, 1 => .ofLoadA .indBc
  | 2, 2 => .ofStoreA .indDe
  | 2, 3 => .ofLoadA .indDe
  | 2, 4 => .ofStoreA .hlInc
  | 2, 5 => .ofLoadA .hlInc
  | 2, 6 => .ofStoreA .hlDec
  | 2, 7 => .ofLoadA .hlDec
  | 3, _ =>
    match fieldQ o with
    | 0 => .ofInc16 (pairOf (fieldP o))
    | 1 => .ofDec16 (pairOf (fieldP o))
  | 4, y => .ofInc8 (operandOf y)
  | 5, y => .ofDec8 (operandOf y)
  | 6, y =>
    match operandOf y with
    | .reg r => .ofLdReg r (.imm b1)
    | .indHl => .ldIndHlD8 b1
  | 7, 0 => .rlca
  | 7, 1 => .rrca
  | 7, 2 => .rla
  | 7, 3 => .rra
  | 7, 4 => .daa
  | 7, 5 => .cpl
  | 7, 6 => .scf
  | 7, 7 => .ccf

/-- Group x = 1: `LD reg8(y),reg8(z)`, with HALT where both name the byte at HL (R84). -/
def decodeX1 (o : Byte) : Instr :=
  match operandOf (fieldY o), operandOf (fieldZ o) with
  | .reg r, src => .ofLdReg r src.toSrc
  | .indHl, .reg r => .ofLdIndHl r
  | .indHl, .indHl => .halt

/-- The secondary map (R85), read by the fields of `cbop` (42_bit_rotate_shift.md rule R150). -/
def decodeSecondary (cbop : Byte) : Instr :=
  match fieldX cbop with
  | 0 => .ofShift (shiftOpOf (fieldY cbop)) (operandOf (fieldZ cbop))
  | 1 => .ofBit (fieldY cbop) (operandOf (fieldZ cbop))
  | 2 => .ofRes (fieldY cbop) (operandOf (fieldZ cbop))
  | 3 => .ofSet (fieldY cbop) (operandOf (fieldZ cbop))

/-- Group x = 3 of the primary map (R84), with the prefix 0xCB and the illegal bytes (R86). -/
def decodeX3 (o b1 b2 : Byte) : Instr :=
  match fieldZ o, fieldY o with
  | 0, 0 => .ofRetCond .nz
  | 0, 1 => .ofRetCond .z
  | 0, 2 => .ofRetCond .nc
  | 0, 3 => .ofRetCond .c
  | 0, 4 => .ofStoreA (.zeroPage b1)
  | 0, 5 => .addSpE8 b1
  | 0, 6 => .ofLoadA (.zeroPage b1)
  | 0, 7 => .ldHlSpE8 b1
  | 1, 1 => .ret
  | 1, 3 => .reti
  | 1, 5 => .jpHl
  | 1, 7 => .ldSpHl
  | 1, _ => .ofPop (stackPairOf (fieldP o))
  | 2, 0 => .ofJpCond .nz (wordOf b2 b1)
  | 2, 1 => .ofJpCond .z (wordOf b2 b1)
  | 2, 2 => .ofJpCond .nc (wordOf b2 b1)
  | 2, 3 => .ofJpCond .c (wordOf b2 b1)
  | 2, 4 => .ofStoreA .zeroPageC
  | 2, 5 => .ofStoreA (.abs (wordOf b2 b1))
  | 2, 6 => .ofLoadA .zeroPageC
  | 2, 7 => .ofLoadA (.abs (wordOf b2 b1))
  | 3, 0 => .jpA16 (wordOf b2 b1)
  | 3, 1 => decodeSecondary b1
  | 3, 6 => .di
  | 3, 7 => .ei
  | 3, _ => .illegal o
  | 4, 0 => .ofCallCond .nz (wordOf b2 b1)
  | 4, 1 => .ofCallCond .z (wordOf b2 b1)
  | 4, 2 => .ofCallCond .nc (wordOf b2 b1)
  | 4, 3 => .ofCallCond .c (wordOf b2 b1)
  | 4, _ => .illegal o
  | 5, 1 => .callA16 (wordOf b2 b1)
  | 5, 3 => .illegal o
  | 5, 5 => .illegal o
  | 5, 7 => .illegal o
  | 5, _ => .ofPush (stackPairOf (fieldP o))
  | 6, y => .ofAlu (aluOpOf y) (.imm b1)
  | 7, y => .ofRst y

/-- The instruction whose first byte is `o`, when the two bytes after it are `b1` and `b2`: total, with exactly one
outcome for every byte (30_encoding.md rule R90). An instruction shorter than three bytes does not depend on the
bytes past its end. -/
def decodeBytes (o b1 b2 : Byte) : Instr :=
  match fieldX o with
  | 0 => decodeX0 o b1 b2
  | 1 => decodeX1 o
  | 2 => .ofAlu (aluOpOf (fieldY o)) (operandOf (fieldZ o)).toSrc
  | 3 => decodeX3 o b1 b2

/-- The bytes of the table's row for an opcode byte (R80 and R83): 1 for format `op`, 2 for `op_d8`, `op_e8` and
`cb`, 3 for `op_d16`. STOP's row has two bytes. -/
def tableLength (o : Byte) : Nat :=
  match fieldX o, fieldZ o, fieldY o with
  | 0, 0, 0 => 1
  | 0, 0, 1 => 3
  | 0, 0, _ => 2
  | 0, 1, _ => if fieldQ o = 0 then 3 else 1
  | 0, 6, _ => 2
  | 3, 0, 4 => 2
  | 3, 0, 5 => 2
  | 3, 0, 6 => 2
  | 3, 0, 7 => 2
  | 3, 2, 4 => 1
  | 3, 2, 6 => 1
  | 3, 2, _ => 3
  | 3, 3, 0 => 3
  | 3, 3, 1 => 2
  | 3, 4, 0 => 3
  | 3, 4, 1 => 3
  | 3, 4, 2 => 3
  | 3, 4, 3 => 3
  | 3, 5, 1 => 3
  | 3, 6, _ => 2
  | _, _, _ => 1

/-- The length an opcode byte gives its instruction (R83): STOP has `STOP_LENGTH`, every other byte its row's. -/
def opcodeLength (cfg : Config) (o : Byte) : Nat :=
  if o = 0x10 then cfg.stopLength.bytes else tableLength o

/-- Why a list of bytes holds no instruction. -/
inductive DecodeReject where
  | noBytes
  | tooShort (opcode : Byte) (needed : Nat)
  deriving DecidableEq, Repr

/-- Decode the first instruction of a list of bytes, in fetch order, and give the bytes after it. -/
def decode : List Byte → Except DecodeReject (Instr × List Byte)
  | [] => .error .noBytes
  | o :: rest =>
    if rest.length + 1 < tableLength o then .error (.tooShort o (tableLength o))
    else .ok (decodeBytes o (rest.getD 0 0) (rest.getD 1 0), rest.drop (tableLength o - 1))

/-! ### The encoder -/

/-- The bytes of an instruction in fetch order, from the `encoding` column of spec/opcode_table.json: an imm16 is its
low byte and then its high byte (R80 and R82). -/
def encode : Instr → List Byte
  | .nop => [0x00] | .ldBcD16 nn => [0x01, loByte nn, hiByte nn] | .ldIndBcA => [0x02] | .incBc => [0x03]
  | .incB => [0x04] | .decB => [0x05] | .ldBD8 n => [0x06, n] | .rlca => [0x07]
  | .ldIndA16Sp nn => [0x08, loByte nn, hiByte nn] | .addHlBc => [0x09] | .ldAIndBc => [0x0A]
  | .decBc => [0x0B] | .incC => [0x0C] | .decC => [0x0D] | .ldCD8 n => [0x0E, n] | .rrca => [0x0F]
  | .stop n => [0x10, n] | .ldDeD16 nn => [0x11, loByte nn, hiByte nn] | .ldIndDeA => [0x12] | .incDe => [0x13]
  | .incD => [0x14] | .decD => [0x15] | .ldDD8 n => [0x16, n] | .rla => [0x17] | .jrE8 e => [0x18, e]
  | .addHlDe => [0x19] | .ldAIndDe => [0x1A] | .decDe => [0x1B] | .incE => [0x1C] | .decE => [0x1D]
  | .ldED8 n => [0x1E, n] | .rra => [0x1F] | .jrNzE8 e => [0x20, e]
  | .ldHlD16 nn => [0x21, loByte nn, hiByte nn] | .ldHliA => [0x22] | .incHl => [0x23] | .incH => [0x24]
  | .decH => [0x25] | .ldHD8 n => [0x26, n] | .daa => [0x27] | .jrZE8 e => [0x28, e] | .addHlHl => [0x29]
  | .ldAHli => [0x2A] | .decHl => [0x2B] | .incL => [0x2C] | .decL => [0x2D] | .ldLD8 n => [0x2E, n]
  | .cpl => [0x2F] | .jrNcE8 e => [0x30, e] | .ldSpD16 nn => [0x31, loByte nn, hiByte nn] | .ldHldA => [0x32]
  | .incSp => [0x33] | .incIndHl => [0x34] | .decIndHl => [0x35] | .ldIndHlD8 n => [0x36, n] | .scf => [0x37]
  | .jrCE8 e => [0x38, e] | .addHlSp => [0x39] | .ldAHld => [0x3A] | .decSp => [0x3B] | .incA => [0x3C]
  | .decA => [0x3D] | .ldAD8 n => [0x3E, n] | .ccf => [0x3F] | .ldBB => [0x40] | .ldBC => [0x41]
  | .ldBD => [0x42] | .ldBE => [0x43] | .ldBH => [0x44] | .ldBL => [0x45] | .ldBIndHl => [0x46]
  | .ldBA => [0x47] | .ldCB => [0x48] | .ldCC => [0x49] | .ldCD => [0x4A] | .ldCE => [0x4B] | .ldCH => [0x4C]
  | .ldCL => [0x4D] | .ldCIndHl => [0x4E] | .ldCA => [0x4F] | .ldDB => [0x50] | .ldDC => [0x51]
  | .ldDD => [0x52] | .ldDE => [0x53] | .ldDH => [0x54] | .ldDL => [0x55] | .ldDIndHl => [0x56]
  | .ldDA => [0x57] | .ldEB => [0x58] | .ldEC => [0x59] | .ldED => [0x5A] | .ldEE => [0x5B] | .ldEH => [0x5C]
  | .ldEL => [0x5D] | .ldEIndHl => [0x5E] | .ldEA => [0x5F] | .ldHB => [0x60] | .ldHC => [0x61]
  | .ldHD => [0x62] | .ldHE => [0x63] | .ldHH => [0x64] | .ldHL => [0x65] | .ldHIndHl => [0x66]
  | .ldHA => [0x67] | .ldLB => [0x68] | .ldLC => [0x69] | .ldLD => [0x6A] | .ldLE => [0x6B] | .ldLH => [0x6C]
  | .ldLL => [0x6D] | .ldLIndHl => [0x6E] | .ldLA => [0x6F] | .ldIndHlB => [0x70] | .ldIndHlC => [0x71]
  | .ldIndHlD => [0x72] | .ldIndHlE => [0x73] | .ldIndHlH => [0x74] | .ldIndHlL => [0x75] | .halt => [0x76]
  | .ldIndHlA => [0x77] | .ldAB => [0x78] | .ldAC => [0x79] | .ldAD => [0x7A] | .ldAE => [0x7B]
  | .ldAH => [0x7C] | .ldAL => [0x7D] | .ldAIndHl => [0x7E] | .ldAA => [0x7F] | .addAB => [0x80]
  | .addAC => [0x81] | .addAD => [0x82] | .addAE => [0x83] | .addAH => [0x84] | .addAL => [0x85]
  | .addAIndHl => [0x86] | .addAA => [0x87] | .adcAB => [0x88] | .adcAC => [0x89] | .adcAD => [0x8A]
  | .adcAE => [0x8B] | .adcAH => [0x8C] | .adcAL => [0x8D] | .adcAIndHl => [0x8E] | .adcAA => [0x8F]
  | .subB => [0x90] | .subC => [0x91] | .subD => [0x92] | .subE => [0x93] | .subH => [0x94] | .subL => [0x95]
  | .subIndHl => [0x96] | .subA => [0x97] | .sbcAB => [0x98] | .sbcAC => [0x99] | .sbcAD => [0x9A]
  | .sbcAE => [0x9B] | .sbcAH => [0x9C] | .sbcAL => [0x9D] | .sbcAIndHl => [0x9E] | .sbcAA => [0x9F]
  | .andB => [0xA0] | .andC => [0xA1] | .andD => [0xA2] | .andE => [0xA3] | .andH => [0xA4] | .andL => [0xA5]
  | .andIndHl => [0xA6] | .andA => [0xA7] | .xorB => [0xA8] | .xorC => [0xA9] | .xorD => [0xAA]
  | .xorE => [0xAB] | .xorH => [0xAC] | .xorL => [0xAD] | .xorIndHl => [0xAE] | .xorA => [0xAF]
  | .orB => [0xB0] | .orC => [0xB1] | .orD => [0xB2] | .orE => [0xB3] | .orH => [0xB4] | .orL => [0xB5]
  | .orIndHl => [0xB6] | .orA => [0xB7] | .cpB => [0xB8] | .cpC => [0xB9] | .cpD => [0xBA] | .cpE => [0xBB]
  | .cpH => [0xBC] | .cpL => [0xBD] | .cpIndHl => [0xBE] | .cpA => [0xBF] | .retNz => [0xC0] | .popBc => [0xC1]
  | .jpNzA16 nn => [0xC2, loByte nn, hiByte nn] | .jpA16 nn => [0xC3, loByte nn, hiByte nn]
  | .callNzA16 nn => [0xC4, loByte nn, hiByte nn] | .pushBc => [0xC5] | .addAD8 n => [0xC6, n]
  | .rst00 => [0xC7] | .retZ => [0xC8] | .ret => [0xC9] | .jpZA16 nn => [0xCA, loByte nn, hiByte nn]
  | .prefixCb cbop => [0xCB, cbop] | .callZA16 nn => [0xCC, loByte nn, hiByte nn]
  | .callA16 nn => [0xCD, loByte nn, hiByte nn] | .adcAD8 n => [0xCE, n] | .rst08 => [0xCF] | .retNc => [0xD0]
  | .popDe => [0xD1] | .jpNcA16 nn => [0xD2, loByte nn, hiByte nn] | .illegal op => [op]
  | .callNcA16 nn => [0xD4, loByte nn, hiByte nn] | .pushDe => [0xD5] | .subD8 n => [0xD6, n]
  | .rst10 => [0xD7] | .retC => [0xD8] | .reti => [0xD9] | .jpCA16 nn => [0xDA, loByte nn, hiByte nn]
  | .callCA16 nn => [0xDC, loByte nn, hiByte nn] | .sbcAD8 n => [0xDE, n] | .rst18 => [0xDF]
  | .ldhIndA8A n => [0xE0, n] | .popHl => [0xE1] | .ldIndCA => [0xE2] | .pushHl => [0xE5]
  | .andD8 n => [0xE6, n] | .rst20 => [0xE7] | .addSpE8 e => [0xE8, e] | .jpHl => [0xE9]
  | .ldIndA16A nn => [0xEA, loByte nn, hiByte nn] | .xorD8 n => [0xEE, n] | .rst28 => [0xEF]
  | .ldhAIndA8 n => [0xF0, n] | .popAf => [0xF1] | .ldAIndC => [0xF2] | .di => [0xF3] | .pushAf => [0xF5]
  | .orD8 n => [0xF6, n] | .rst30 => [0xF7] | .ldHlSpE8 e => [0xF8, e] | .ldSpHl => [0xF9]
  | .ldAIndA16 nn => [0xFA, loByte nn, hiByte nn] | .ei => [0xFB] | .cpD8 n => [0xFE, n] | .rst38 => [0xFF]
  | .rlcB => [0xCB, 0x00] | .rlcC => [0xCB, 0x01] | .rlcD => [0xCB, 0x02] | .rlcE => [0xCB, 0x03]
  | .rlcH => [0xCB, 0x04] | .rlcL => [0xCB, 0x05] | .rlcIndHl => [0xCB, 0x06] | .rlcA => [0xCB, 0x07]
  | .rrcB => [0xCB, 0x08] | .rrcC => [0xCB, 0x09] | .rrcD => [0xCB, 0x0A] | .rrcE => [0xCB, 0x0B]
  | .rrcH => [0xCB, 0x0C] | .rrcL => [0xCB, 0x0D] | .rrcIndHl => [0xCB, 0x0E] | .rrcA => [0xCB, 0x0F]
  | .rlB => [0xCB, 0x10] | .rlC => [0xCB, 0x11] | .rlD => [0xCB, 0x12] | .rlE => [0xCB, 0x13]
  | .rlH => [0xCB, 0x14] | .rlL => [0xCB, 0x15] | .rlIndHl => [0xCB, 0x16] | .rlA => [0xCB, 0x17]
  | .rrB => [0xCB, 0x18] | .rrC => [0xCB, 0x19] | .rrD => [0xCB, 0x1A] | .rrE => [0xCB, 0x1B]
  | .rrH => [0xCB, 0x1C] | .rrL => [0xCB, 0x1D] | .rrIndHl => [0xCB, 0x1E] | .rrA => [0xCB, 0x1F]
  | .slaB => [0xCB, 0x20] | .slaC => [0xCB, 0x21] | .slaD => [0xCB, 0x22] | .slaE => [0xCB, 0x23]
  | .slaH => [0xCB, 0x24] | .slaL => [0xCB, 0x25] | .slaIndHl => [0xCB, 0x26] | .slaA => [0xCB, 0x27]
  | .sraB => [0xCB, 0x28] | .sraC => [0xCB, 0x29] | .sraD => [0xCB, 0x2A] | .sraE => [0xCB, 0x2B]
  | .sraH => [0xCB, 0x2C] | .sraL => [0xCB, 0x2D] | .sraIndHl => [0xCB, 0x2E] | .sraA => [0xCB, 0x2F]
  | .swapB => [0xCB, 0x30] | .swapC => [0xCB, 0x31] | .swapD => [0xCB, 0x32] | .swapE => [0xCB, 0x33]
  | .swapH => [0xCB, 0x34] | .swapL => [0xCB, 0x35] | .swapIndHl => [0xCB, 0x36] | .swapA => [0xCB, 0x37]
  | .srlB => [0xCB, 0x38] | .srlC => [0xCB, 0x39] | .srlD => [0xCB, 0x3A] | .srlE => [0xCB, 0x3B]
  | .srlH => [0xCB, 0x3C] | .srlL => [0xCB, 0x3D] | .srlIndHl => [0xCB, 0x3E] | .srlA => [0xCB, 0x3F]
  | .bit0B => [0xCB, 0x40] | .bit0C => [0xCB, 0x41] | .bit0D => [0xCB, 0x42] | .bit0E => [0xCB, 0x43]
  | .bit0H => [0xCB, 0x44] | .bit0L => [0xCB, 0x45] | .bit0IndHl => [0xCB, 0x46] | .bit0A => [0xCB, 0x47]
  | .bit1B => [0xCB, 0x48] | .bit1C => [0xCB, 0x49] | .bit1D => [0xCB, 0x4A] | .bit1E => [0xCB, 0x4B]
  | .bit1H => [0xCB, 0x4C] | .bit1L => [0xCB, 0x4D] | .bit1IndHl => [0xCB, 0x4E] | .bit1A => [0xCB, 0x4F]
  | .bit2B => [0xCB, 0x50] | .bit2C => [0xCB, 0x51] | .bit2D => [0xCB, 0x52] | .bit2E => [0xCB, 0x53]
  | .bit2H => [0xCB, 0x54] | .bit2L => [0xCB, 0x55] | .bit2IndHl => [0xCB, 0x56] | .bit2A => [0xCB, 0x57]
  | .bit3B => [0xCB, 0x58] | .bit3C => [0xCB, 0x59] | .bit3D => [0xCB, 0x5A] | .bit3E => [0xCB, 0x5B]
  | .bit3H => [0xCB, 0x5C] | .bit3L => [0xCB, 0x5D] | .bit3IndHl => [0xCB, 0x5E] | .bit3A => [0xCB, 0x5F]
  | .bit4B => [0xCB, 0x60] | .bit4C => [0xCB, 0x61] | .bit4D => [0xCB, 0x62] | .bit4E => [0xCB, 0x63]
  | .bit4H => [0xCB, 0x64] | .bit4L => [0xCB, 0x65] | .bit4IndHl => [0xCB, 0x66] | .bit4A => [0xCB, 0x67]
  | .bit5B => [0xCB, 0x68] | .bit5C => [0xCB, 0x69] | .bit5D => [0xCB, 0x6A] | .bit5E => [0xCB, 0x6B]
  | .bit5H => [0xCB, 0x6C] | .bit5L => [0xCB, 0x6D] | .bit5IndHl => [0xCB, 0x6E] | .bit5A => [0xCB, 0x6F]
  | .bit6B => [0xCB, 0x70] | .bit6C => [0xCB, 0x71] | .bit6D => [0xCB, 0x72] | .bit6E => [0xCB, 0x73]
  | .bit6H => [0xCB, 0x74] | .bit6L => [0xCB, 0x75] | .bit6IndHl => [0xCB, 0x76] | .bit6A => [0xCB, 0x77]
  | .bit7B => [0xCB, 0x78] | .bit7C => [0xCB, 0x79] | .bit7D => [0xCB, 0x7A] | .bit7E => [0xCB, 0x7B]
  | .bit7H => [0xCB, 0x7C] | .bit7L => [0xCB, 0x7D] | .bit7IndHl => [0xCB, 0x7E] | .bit7A => [0xCB, 0x7F]
  | .res0B => [0xCB, 0x80] | .res0C => [0xCB, 0x81] | .res0D => [0xCB, 0x82] | .res0E => [0xCB, 0x83]
  | .res0H => [0xCB, 0x84] | .res0L => [0xCB, 0x85] | .res0IndHl => [0xCB, 0x86] | .res0A => [0xCB, 0x87]
  | .res1B => [0xCB, 0x88] | .res1C => [0xCB, 0x89] | .res1D => [0xCB, 0x8A] | .res1E => [0xCB, 0x8B]
  | .res1H => [0xCB, 0x8C] | .res1L => [0xCB, 0x8D] | .res1IndHl => [0xCB, 0x8E] | .res1A => [0xCB, 0x8F]
  | .res2B => [0xCB, 0x90] | .res2C => [0xCB, 0x91] | .res2D => [0xCB, 0x92] | .res2E => [0xCB, 0x93]
  | .res2H => [0xCB, 0x94] | .res2L => [0xCB, 0x95] | .res2IndHl => [0xCB, 0x96] | .res2A => [0xCB, 0x97]
  | .res3B => [0xCB, 0x98] | .res3C => [0xCB, 0x99] | .res3D => [0xCB, 0x9A] | .res3E => [0xCB, 0x9B]
  | .res3H => [0xCB, 0x9C] | .res3L => [0xCB, 0x9D] | .res3IndHl => [0xCB, 0x9E] | .res3A => [0xCB, 0x9F]
  | .res4B => [0xCB, 0xA0] | .res4C => [0xCB, 0xA1] | .res4D => [0xCB, 0xA2] | .res4E => [0xCB, 0xA3]
  | .res4H => [0xCB, 0xA4] | .res4L => [0xCB, 0xA5] | .res4IndHl => [0xCB, 0xA6] | .res4A => [0xCB, 0xA7]
  | .res5B => [0xCB, 0xA8] | .res5C => [0xCB, 0xA9] | .res5D => [0xCB, 0xAA] | .res5E => [0xCB, 0xAB]
  | .res5H => [0xCB, 0xAC] | .res5L => [0xCB, 0xAD] | .res5IndHl => [0xCB, 0xAE] | .res5A => [0xCB, 0xAF]
  | .res6B => [0xCB, 0xB0] | .res6C => [0xCB, 0xB1] | .res6D => [0xCB, 0xB2] | .res6E => [0xCB, 0xB3]
  | .res6H => [0xCB, 0xB4] | .res6L => [0xCB, 0xB5] | .res6IndHl => [0xCB, 0xB6] | .res6A => [0xCB, 0xB7]
  | .res7B => [0xCB, 0xB8] | .res7C => [0xCB, 0xB9] | .res7D => [0xCB, 0xBA] | .res7E => [0xCB, 0xBB]
  | .res7H => [0xCB, 0xBC] | .res7L => [0xCB, 0xBD] | .res7IndHl => [0xCB, 0xBE] | .res7A => [0xCB, 0xBF]
  | .set0B => [0xCB, 0xC0] | .set0C => [0xCB, 0xC1] | .set0D => [0xCB, 0xC2] | .set0E => [0xCB, 0xC3]
  | .set0H => [0xCB, 0xC4] | .set0L => [0xCB, 0xC5] | .set0IndHl => [0xCB, 0xC6] | .set0A => [0xCB, 0xC7]
  | .set1B => [0xCB, 0xC8] | .set1C => [0xCB, 0xC9] | .set1D => [0xCB, 0xCA] | .set1E => [0xCB, 0xCB]
  | .set1H => [0xCB, 0xCC] | .set1L => [0xCB, 0xCD] | .set1IndHl => [0xCB, 0xCE] | .set1A => [0xCB, 0xCF]
  | .set2B => [0xCB, 0xD0] | .set2C => [0xCB, 0xD1] | .set2D => [0xCB, 0xD2] | .set2E => [0xCB, 0xD3]
  | .set2H => [0xCB, 0xD4] | .set2L => [0xCB, 0xD5] | .set2IndHl => [0xCB, 0xD6] | .set2A => [0xCB, 0xD7]
  | .set3B => [0xCB, 0xD8] | .set3C => [0xCB, 0xD9] | .set3D => [0xCB, 0xDA] | .set3E => [0xCB, 0xDB]
  | .set3H => [0xCB, 0xDC] | .set3L => [0xCB, 0xDD] | .set3IndHl => [0xCB, 0xDE] | .set3A => [0xCB, 0xDF]
  | .set4B => [0xCB, 0xE0] | .set4C => [0xCB, 0xE1] | .set4D => [0xCB, 0xE2] | .set4E => [0xCB, 0xE3]
  | .set4H => [0xCB, 0xE4] | .set4L => [0xCB, 0xE5] | .set4IndHl => [0xCB, 0xE6] | .set4A => [0xCB, 0xE7]
  | .set5B => [0xCB, 0xE8] | .set5C => [0xCB, 0xE9] | .set5D => [0xCB, 0xEA] | .set5E => [0xCB, 0xEB]
  | .set5H => [0xCB, 0xEC] | .set5L => [0xCB, 0xED] | .set5IndHl => [0xCB, 0xEE] | .set5A => [0xCB, 0xEF]
  | .set6B => [0xCB, 0xF0] | .set6C => [0xCB, 0xF1] | .set6D => [0xCB, 0xF2] | .set6E => [0xCB, 0xF3]
  | .set6H => [0xCB, 0xF4] | .set6L => [0xCB, 0xF5] | .set6IndHl => [0xCB, 0xF6] | .set6A => [0xCB, 0xF7]
  | .set7B => [0xCB, 0xF8] | .set7C => [0xCB, 0xF9] | .set7D => [0xCB, 0xFA] | .set7E => [0xCB, 0xFB]
  | .set7H => [0xCB, 0xFC] | .set7L => [0xCB, 0xFD] | .set7IndHl => [0xCB, 0xFE] | .set7A => [0xCB, 0xFF]

/-- The length of an instruction: its row's bytes, and `STOP_LENGTH` for STOP (R83 and 45_flag_misc.md rule R252). -/
def Instr.width (cfg : Config) (i : Instr) : Nat :=
  match i with
  | .stop _ => cfg.stopLength.bytes
  | i => (encode i).length

/-! ### Words of the opcode table -/

/-- The three bytes, in fetch order, of the instruction whose bits spec/opcode_table.json numbers as `w`. A row of 16
bits whose upper byte is 0xCB is a prefixed row, read as `byte0 << 8 | byte1` (30_encoding.md, "How to read a row of
opcode_table.json"). Every other word has its first byte in bits 7..0 and the later ones above it. Bits at and above
`nbits` are 0 (DESIGN CHOICE: notes/assumptions/6.md). -/
def tableBytes (nbits w : Nat) : Byte × Byte × Byte :=
  let v := w % 2 ^ nbits
  if nbits = 16 ∧ v / 256 = 0xCB then (0xCB, BitVec.ofNat 8 v, 0)
  else (BitVec.ofNat 8 v, BitVec.ofNat 8 (v / 256), BitVec.ofNat 8 (v / 65536))

/-- What the decoder reads from that instruction. -/
def decodeTableWord (nbits w : Nat) : Option Instr :=
  let (o, b1, b2) := tableBytes nbits w
  match decode [o, b1, b2] with
  | .ok (i, _) => some i
  | .error _ => none

end Sys2Proof
end

