-- ==== Sys2Proof/Machine/State.lean ====
section
/-! DEFINITION. The state of the core, the ways a step or a launch can stop, and the state after reset. -/

namespace Sys2Proof.Machine

/-- `Mem` of 20_memory.md rule R50: 65,536 bytes by storage address. A cell that is not listed holds 0x00 (R301),
and the canonical form (`Memory.wf`) lists no such cell. -/
abbrev Memory := List Host.Cell

/-- The whole state of the core (10_state.md): the tuple (A, F, B, C, D, E, H, L, SP, PC, IME, Mem), and beside it
the machine's fixed parameter, which no instruction writes. -/
@[ext]
structure State where
  /-- The accumulator and the six general-purpose registers (R20); BC, DE and HL are views of them (R23). -/
  a : Byte
  /-- The flags register: Z, N, H, C in bits 7 to 4, zeros below (R21). -/
  f : Byte
  b : Byte
  c : Byte
  d : Byte
  e : Byte
  h : Byte
  l : Byte
  /-- The stack pointer, a register of its own (R27). -/
  sp : Word
  /-- The address of the next instruction to fetch (R25). -/
  pc : Word
  /-- The interrupt master enable latch: written by EI, DI and RETI, read by nothing (R28). -/
  ime : Bool
  /-- The storage behind the byte interface (R50). -/
  mem : Memory
  /-- `STOP_LENGTH` (00_scope.md rule R7). The model's own field: a parameter of the machine, not a register. -/
  cfg : Config
  deriving DecidableEq, Repr

/-- The step faults of 60_exceptions.md rule R270. Each holds the fault record: the opcode byte and its address.
Nothing is written by a faulting step. -/
inductive Fault where
  /-- Cause 1 (R271): raised by the meaning of an illegal byte, as the spec says; exact, so safe. -/
  | illegalOpcode (op : Byte) (pc0 : Word)
  /-- Cause 2 (R272): raised by the handler of illegal bytes when it is given a byte outside its set, which no
  decoded instruction does; safe, since no step reaches it. -/
  | designatorFault (op : Byte) (pc0 : Word)
  deriving DecidableEq, Repr

/-- Why the model answers without a state. -/
inductive Refusal where
  /-- Raised only by an arm of `exec` whose instruction has no meaning yet (there is none now); safe. -/
  | notModelled (mnemonic : String)
  /-- Cause 3 (70_reset_and_hazards.md rule R302): raised by `launch` before the first step, by no step; safe. -/
  | cartridgeRefused
  deriving DecidableEq, Repr

/-- What a step answers. -/
abbrev Result := Host.Outcome State Fault Refusal

/-- The machine right after reset (70_reset_and_hazards.md rules R301 and R305 to R309): pc at the entry point, SP at
its default, IME 0, and every memory byte 0x00, which is a launch with no cartridge. The spec leaves A, F, B, C, D, E,
H and L open (`RESET_REGS`) and the boot collaborator's bytes too (`BOOT_VRAM`); zero for them is a DESIGN CHOICE
(notes/assumptions/1.md and 2.md). `launch` gives the state after reset for every other choice. -/
def State.reset : State :=
  { a := 0, f := 0, b := 0, c := 0, d := 0, e := 0, h := 0, l := 0
    sp := 0xFFFE, pc := 0x0100, ime := false, mem := [], cfg := Config.default }

end Sys2Proof.Machine
end

