-- ==== Sys2Proof/Machine/Ops.lean ====
section
/-! DEFINITION. The named operations over memory, registers, pc and the stack, and the raising of a fault. -/

namespace Sys2Proof.Machine

/-! ### Truncation (00_scope.md rule R8) -/

/-- `trunc8(v) = v mod 256`. -/
def trunc8 (v : Int) : Byte := BitVec.ofInt 8 v

/-- `trunc16(v) = v mod 65536`. -/
def trunc16 (v : Int) : Word := BitVec.ofInt 16 v

/-! ### Storage (20_memory.md rule R50) -/

/-- `Mem[k]`: the listed byte, and 0x00 for a cell that is not listed (70_reset_and_hazards.md rule R301). -/
def Memory.cell : Memory → Nat → Byte
  | [], _ => 0
  | (k, v) :: m, a => if k = a then v else Memory.cell m a

/-- The storage without any entry for cell `a`. -/
def Memory.erase : Memory → Nat → Memory
  | [], _ => []
  | (k, v) :: m, a => if k = a then Memory.erase m a else (k, v) :: Memory.erase m a

/-- The storage with an entry put in its place by address. -/
def Memory.insert : Memory → Nat → Byte → Memory
  | [], a, v => [(a, v)]
  | (k, w) :: m, a, v => if a < k then (a, v) :: (k, w) :: m else (k, w) :: Memory.insert m a v

/-- `Mem[a] <- v`. A byte equal to what an unlisted cell holds is not listed, so equal storages are equal lists. -/
def Memory.setCell (m : Memory) (a : Nat) (v : Byte) : Memory :=
  if v = 0 then m.erase a else (m.erase a).insert a v

/-- The entries' addresses rise strictly, from at least `lo`. -/
def Memory.risesFrom : Nat → Memory → Bool
  | _, [] => true
  | lo, (k, _) :: m => decide (lo ≤ k) && Memory.risesFrom (k + 1) m

/-- The canonical form: addresses strictly rising and inside the 65,536 cells, no entry holding 0x00. -/
def Memory.wf (m : Memory) : Bool :=
  Memory.risesFrom 0 m && m.all (fun cell => decide (cell.1 < 65536) && cell.2 != 0)

/-! ### The byte interface (20_memory.md rules R52 to R54) -/

/-- The echo translation (R52): [0xE000, 0xFDFF) is redirected to 0xC000 and up; the range is half-open. -/
def echoTranslate (a : Word) : Word :=
  if 0xE000 ≤ a.toNat ∧ a.toNat < 0xFDFF then trunc16 (a.toNat - 0x2000) else a

/-- `MemRead(a, 1)` (R53): the byte of the translated cell; no side effect. -/
def State.read (s : State) (a : Word) : Byte := s.mem.cell (echoTranslate a).toNat

/-- `MemWrite(a, 1, v)` (R54): sets the byte of the translated cell and nothing else, at every address. -/
def State.write (s : State) (a : Word) (v : Byte) : State :=
  { s with mem := s.mem.setCell (echoTranslate a).toNat v }

/-- A list of bytes stored at rising addresses through the byte interface, as the host's collaborators do (R67). -/
def State.writeBlock (s : State) (a : Word) : List Byte → State
  | [] => s
  | v :: vs => (State.writeBlock s (a + 1) vs).write a v

/-- `n` bytes read at rising addresses through the byte interface (R67). -/
def State.readBlock (s : State) (a : Word) : Nat → List Byte
  | 0 => []
  | n + 1 => s.read a :: State.readBlock s (a + 1) n

/-! ### Registers (10_state.md rules R20 to R24) -/

/-- `x[r]`. -/
def State.getReg (s : State) : Reg8 → Byte
  | .b => s.b | .c => s.c | .d => s.d | .e => s.e | .h => s.h | .l => s.l | .a => s.a

/-- `x[r] <- v`. -/
def State.setReg (s : State) : Reg8 → Byte → State
  | .b, v => { s with b := v }
  | .c, v => { s with c := v }
  | .d, v => { s with d := v }
  | .e, v => { s with e := v }
  | .h, v => { s with h := v }
  | .l, v => { s with l := v }
  | .a, v => { s with a := v }

/-- `x[F] <- v`: the one operation that writes F. Bits 3..0 stay zero (R22). -/
def State.setF (s : State) (v : Byte) : State := { s with f := v &&& 0xF0 }

/-- `x[BC]` (R23). -/
def State.bc (s : State) : Word := wordOf s.b s.c

/-- `x[DE]` (R23). -/
def State.de (s : State) : Word := wordOf s.d s.e

/-- `x[HL]` (R23). -/
def State.hl (s : State) : Word := wordOf s.h s.l

/-- `x[AF]` (R24). -/
def State.af (s : State) : Word := wordOf s.a s.f

/-- `x[HL] <- v` (R23). -/
def State.setHl (s : State) (v : Word) : State := { s with h := hiByte v, l := loByte v }

/-- `x[rp(p)]` (00_scope.md rule R13). -/
def State.getPair (s : State) : Pair → Word
  | .bc => s.bc | .de => s.de | .hl => s.hl | .sp => s.sp

/-- `x[rp(p)] <- v` (R13 and R23). -/
def State.setPair (s : State) : Pair → Word → State
  | .bc, v => { s with b := hiByte v, c := loByte v }
  | .de, v => { s with d := hiByte v, e := loByte v }
  | .hl, v => s.setHl v
  | .sp, v => { s with sp := v }

/-- `x[rp2(p)]` (R13 and R24). -/
def State.getStackPair (s : State) : StackPair → Word
  | .bc => s.bc | .de => s.de | .hl => s.hl | .af => s.af

/-- `x[rp2(p)] <- v`: for AF the low byte goes through the masked write of F (R22 and R24). -/
def State.setStackPair (s : State) : StackPair → Word → State
  | .bc, v => s.setPair .bc v
  | .de, v => s.setPair .de v
  | .hl, v => s.setPair .hl v
  | .af, v => ({ s with a := hiByte v }).setF (loByte v)

/-! ### The program counter (10_state.md rules R25 and R26) -/

/-- `next(n)`, the address after an instruction of `n` bytes that starts at the current pc (00_scope.md rule R12). -/
def State.nextPc (s : State) (n : Nat) : Word := trunc16 (s.pc.toNat + n)

/-- `pc <- next(n)`, made while pc still holds pc0. -/
def State.advance (s : State) (n : Nat) : State := { s with pc := s.nextPc n }

/-- `pc <- target`. -/
def State.jump (s : State) (target : Word) : State := { s with pc := target }

/-! ### The stack (43_load_store.md rules R203 and R204) -/

/-- `x[SP] <- trunc16(x[SP] + k)`. -/
def State.moveSp (s : State) (k : Int) : State := { s with sp := trunc16 (s.sp.toNat + k) }

/-- One byte of a push: SP moves down by 1, then the byte is stored at it. -/
def State.pushByte (s : State) (v : Byte) : State :=
  let s1 := s.moveSp (-1)
  s1.write s1.sp v

/-- `push16(v)`: the high byte at SP-1, then the low byte at SP-2 (R203). -/
def State.push16 (s : State) (v : Word) : State := (s.pushByte (hiByte v)).pushByte (loByte v)

/-- `pop16()`: the low byte at SP, the high byte at SP+1, and SP moved up by 2 (R204). -/
def State.pop16 (s : State) : Word × State :=
  let lo := s.read s.sp
  let s1 := s.moveSp 1
  let hi := s1.read s1.sp
  (wordOf hi lo, s1.moveSp 1)

/-! ### Raising a fault (60_exceptions.md rules R270 to R274)
No trap is ever entered: a fault saves no state, pushes nothing and goes to no vector, so it is the end of the step
and leaves the state as it was (R274). There is no return from a fault (R276). -/

/-- `raise IllegalOpcode(op)` (R271): the record is the byte and its address. -/
def raiseIllegalOpcode (op : Byte) (s : State) : Result := .fault (.illegalOpcode op s.pc)

/-- `raise DesignatorFault(op)` (R272). -/
def raiseDesignatorFault (op : Byte) (s : State) : Result := .fault (.designatorFault op s.pc)

/-- The spec's cause codes (R270, 92_eei_decisions.md D23). -/
def Fault.cause : Fault → Nat
  | .illegalOpcode _ _ => 1
  | .designatorFault _ _ => 2

/-- The cause code of a refused launch is 3; an instruction without a meaning has none (R270). -/
def Refusal.cause (r : Refusal) : Option Nat :=
  if r = .cartridgeRefused then some 3 else none

end Sys2Proof.Machine
end

