-- ==== Sys2Proof/Machine/Flags.lean ====
section
/-! DEFINITION. The flags and every function that computes a result with flags: the 8-bit and 16-bit ALU, the shifts
and decimal adjust. -/

namespace Sys2Proof.Machine

/-! ### Reading and writing a flag (10_state.md rules R21 and R22) -/

/-- The bit of F that holds a flag (R21). -/
def flagBit : Flag → Nat
  | .z => 7 | .n => 6 | .h => 5 | .c => 4

/-- A byte with one flag's bit replaced. -/
def putFlag (f : Byte) (fl : Flag) (v : Bool) : Byte :=
  if v then f ||| BitVec.twoPow 8 (flagBit fl) else f &&& ~~~(BitVec.twoPow 8 (flagBit fl))

/-- `F.Z`, `F.N`, `F.H` or `F.C` (00_scope.md rule R10). -/
def State.flag (s : State) (fl : Flag) : Bool := s.f.getLsbD (flagBit fl)

/-- `F.Z <- v` and the like: a read-modify-write of the one bit, through the masked write of F (R22). -/
def State.setFlag (s : State) (fl : Flag) (v : Bool) : State := s.setF (putFlag s.f fl v)

/-- `F.Z <- z; F.N <- n; F.H <- h; F.C <- c`. -/
def State.setFlags (s : State) (z n h c : Bool) : State :=
  (((s.setFlag .z z).setFlag .n n).setFlag .h h).setFlag .c c

/-- `F.Z <- z; F.N <- n; F.H <- h`, with C left as it is. -/
def State.setZnh (s : State) (z n h : Bool) : State :=
  ((s.setFlag .z z).setFlag .n n).setFlag .h h

/-- `F.N <- n; F.H <- h; F.C <- c`, with Z left as it is. -/
def State.setNhc (s : State) (n h c : Bool) : State :=
  ((s.setFlag .n n).setFlag .h h).setFlag .c c

/-! ### The 8-bit ALU (40_arith_logic.md rules R101 to R105) -/

/-- A result byte with its four flags. -/
structure AluOut where
  res : Byte
  z : Bool
  n : Bool
  h : Bool
  c : Bool
  deriving DecidableEq, Repr

/-- `v & 0xF` as a number. -/
def lowNibble (v : Byte) : Nat := v.toNat % 16

/-- `add8(a, b, cin)` (R101). -/
def add8 (a b : Byte) (cin : Bool) : AluOut :=
  let s := a.toNat + b.toNat + cin.toNat
  let res := trunc8 s
  { res := res, z := res == 0, n := false
    h := decide (lowNibble a + lowNibble b + cin.toNat > 0xF)
    c := decide (s > 0xFF) }

/-- `sub8(a, b, cin)` (R102). -/
def sub8 (a b : Byte) (cin : Bool) : AluOut :=
  let d : Int := a.toNat - b.toNat - cin.toNat
  let res := trunc8 d
  { res := res, z := res == 0, n := true
    h := decide (lowNibble a < lowNibble b + cin.toNat)
    c := decide (a.toNat < b.toNat + cin.toNat) }

/-- `and8(a, b)` (R103). -/
def and8 (a b : Byte) : AluOut :=
  { res := a &&& b, z := (a &&& b) == 0, n := false, h := true, c := false }

/-- `xor8(a, b)` (R104). -/
def xor8 (a b : Byte) : AluOut :=
  { res := a ^^^ b, z := (a ^^^ b) == 0, n := false, h := false, c := false }

/-- `or8(a, b)` (R105). -/
def or8 (a b : Byte) : AluOut :=
  { res := a ||| b, z := (a ||| b) == 0, n := false, h := false, c := false }

/-- The ALU function of an operation: `x` is A, `y` the source and `cin` the carry flag (rules R106 to R129). -/
def aluFn (op : AluOp) (x y : Byte) (cin : Bool) : AluOut :=
  match op with
  | .add => add8 x y false
  | .adc => add8 x y cin
  | .sub => sub8 x y false
  | .sbc => sub8 x y cin
  | .and => and8 x y
  | .xor => xor8 x y
  | .or => or8 x y
  | .cp => sub8 x y false

/-! ### The 16-bit additions (rules R130 and R131) -/

/-- A result word with its half-carry and carry. -/
structure AddOut where
  res : Word
  h : Bool
  c : Bool
  deriving DecidableEq, Repr

/-- The sum of `ADD HL,rr`, with the carries out of bits 11 and 15 (R131). -/
def add16 (x y : Word) : AddOut :=
  let s := x.toNat + y.toNat
  { res := trunc16 s, h := decide (x.toNat % 0x1000 + y.toNat % 0x1000 > 0x0FFF), c := decide (s > 0xFFFF) }

/-- `sext(v)`: a byte read as a signed number (00_scope.md rule R9). -/
def sext (v : Byte) : Int := if v.toNat < 0x80 then v.toNat else v.toNat - 0x100

/-- `spadd(sp, e)`: the offset is signed, the two carries are those of the unsigned add of the low byte (R130). -/
def spadd (sp : Word) (e : Byte) : AddOut :=
  { res := trunc16 (sp.toNat + sext e)
    h := decide (sp.toNat % 16 + lowNibble e > 0x0F)
    c := decide (sp.toNat % 256 + e.toNat > 0xFF) }

/-! ### Rotates and shifts (42_bit_rotate_shift.md rule R151) -/

/-- The result of a shift and the bit shifted out; `cin` is the old carry flag. -/
def shiftFn (op : ShiftOp) (v : Byte) (cin : Bool) : Byte × Bool :=
  let bit7 := v.getLsbD 7
  let bit0 := v.getLsbD 0
  match op with
  | .rlc => ((v <<< 1) ||| (BitVec.ofBool bit7).setWidth 8, bit7)
  | .rrc => ((v >>> 1) ||| ((BitVec.ofBool bit0).setWidth 8 <<< 7), bit0)
  | .rl => ((v <<< 1) ||| (BitVec.ofBool cin).setWidth 8, bit7)
  | .rr => ((v >>> 1) ||| ((BitVec.ofBool cin).setWidth 8 <<< 7), bit0)
  | .sla => (v <<< 1, bit7)
  | .sra => ((v >>> 1) ||| (v &&& 0x80), bit0)
  | .swap => (((v &&& 0x0F) <<< 4) ||| (v >>> 4), false)
  | .srl => (v >>> 1, bit0)

/-! ### Decimal adjust (45_flag_misc.md rule R255) -/

/-- The adjusted accumulator and the new carry, from A and the flags N, H and C. -/
def daaFn (a : Byte) (n h c : Bool) : Byte × Bool :=
  if n then
    let a1 := if c then trunc8 (a.toNat - 0x60) else a
    let a2 := if h then trunc8 (a1.toNat - 0x06) else a1
    (a2, c)
  else
    let high := c || decide (a.toNat > 0x99)
    let a1 := if high then trunc8 (a.toNat + 0x60) else a
    let a2 := if h || decide (lowNibble a1 > 0x09) then trunc8 (a1.toNat + 0x06) else a1
    (a2, high)

end Sys2Proof.Machine
end

