-- ==== Sys2Proof/Machine/Operands.lean ====
section
/-! DEFINITION. Every operand form (00_scope.md rule R13, 43_load_store.md rule R208) and the conditions. -/

namespace Sys2Proof.Machine

/-- `get8(k)` (R13): a register, or the byte at HL. -/
def State.get8 (s : State) : Operand8 → Byte
  | .reg r => s.getReg r
  | .indHl => s.read s.hl

/-- `set8(k, v)` (R13). -/
def State.set8 (s : State) : Operand8 → Byte → State
  | .reg r, v => s.setReg r v
  | .indHl, v => s.write s.hl v

/-- The value of a source operand (40_arith_logic.md rule R100). -/
def State.getSrc (s : State) : Src8 → Byte
  | .reg r => s.getReg r
  | .indHl => s.read s.hl
  | .imm n => n

/-- The bytes of an instruction whose one operand is this source: an immediate is a second byte (R100). -/
def srcWidth : Src8 → Nat
  | .reg _ => 1
  | .indHl => 1
  | .imm _ => 2

/-- `0xFF00 + v`, an address of the zero page (R194 and R196). -/
def zeroPageAddr (v : Byte) : Word := trunc16 (0xFF00 + v.toNat)

/-- The effective address of an addressing mode (R208), before the translation of 20_memory.md rule R52. -/
def State.effAddr (s : State) : AddrMode → Word
  | .indBc => s.bc
  | .indDe => s.de
  | .hlInc => s.hl
  | .hlDec => s.hl
  | .zeroPage a8 => zeroPageAddr a8
  | .zeroPageC => zeroPageAddr s.c
  | .abs a16 => a16

/-- The base register's change after the access: HL + 1 or HL - 1, nothing for the other modes (R208). -/
def State.postModify (s : State) : AddrMode → State
  | .hlInc => s.setHl (trunc16 (s.hl.toNat + 1))
  | .hlDec => s.setHl (trunc16 (s.hl.toNat - 1))
  | .indBc => s
  | .indDe => s
  | .zeroPage _ => s
  | .zeroPageC => s
  | .abs _ => s

/-- The bytes of a load or store of A with this mode (rules R186 to R199). -/
def modeWidth : AddrMode → Nat
  | .indBc => 1
  | .indDe => 1
  | .hlInc => 1
  | .hlDec => 1
  | .zeroPage _ => 2
  | .zeroPageC => 1
  | .abs _ => 3

/-- `cond(q)` on the flags as they stand (R13, 44_control_flow.md rule R231). -/
def State.holds (s : State) : Cond → Bool
  | .nz => !s.flag .z
  | .z => s.flag .z
  | .nc => !s.flag .c
  | .c => s.flag .c

end Sys2Proof.Machine
end

