-- ==== Sys2Proof/Machine/Alu.lean ====
section
/-! DEFINITION. The arithmetic and logical instructions (40_arith_logic.md). -/

namespace Sys2Proof.Machine

/-- `ALU A,src` (rules R100 and R106 to R129): both operands are read before A is written; CP writes only the flags. -/
def alu (op : AluOp) (src : Src8) (s : State) : State :=
  let r := aluFn op s.a (s.getSrc src) (s.flag .c)
  let s1 := if op = .cp then s else { s with a := r.res }
  (s1.setFlags r.z r.n r.h r.c).advance (srcWidth src)

/-- `ADD HL,rr` (R131): Z is left as it is. -/
def addHl (p : Pair) (s : State) : State :=
  let r := add16 s.hl (s.getPair p)
  ((s.setHl r.res).setNhc false r.h r.c).advance 1

/-- `ADD SP,e8` (R132). -/
def addSp (e : Byte) (s : State) : State :=
  let r := spadd s.sp e
  (({ s with sp := r.res }).setFlags false false r.h r.c).advance 2

/-! ### ADD -/

/-- `ADD A,B` (R106). -/
def execAddAB (s : State) : Result := .next (alu .add (.reg .b) s)

/-- `ADD A,C` (R106). -/
def execAddAC (s : State) : Result := .next (alu .add (.reg .c) s)

/-- `ADD A,D` (R106). -/
def execAddAD (s : State) : Result := .next (alu .add (.reg .d) s)

/-- `ADD A,E` (R106). -/
def execAddAE (s : State) : Result := .next (alu .add (.reg .e) s)

/-- `ADD A,H` (R106). -/
def execAddAH (s : State) : Result := .next (alu .add (.reg .h) s)

/-- `ADD A,L` (R106). -/
def execAddAL (s : State) : Result := .next (alu .add (.reg .l) s)

/-- `ADD A,(HL)` (R107). -/
def execAddAIndHl (s : State) : Result := .next (alu .add .indHl s)

/-- `ADD A,A` (R106). -/
def execAddAA (s : State) : Result := .next (alu .add (.reg .a) s)

/-- `ADD A,d8` (R108). -/
def execAddAD8 (n : Byte) (s : State) : Result := .next (alu .add (.imm n) s)

/-! ### ADC -/

/-- `ADC A,B` (R109). -/
def execAdcAB (s : State) : Result := .next (alu .adc (.reg .b) s)

/-- `ADC A,C` (R109). -/
def execAdcAC (s : State) : Result := .next (alu .adc (.reg .c) s)

/-- `ADC A,D` (R109). -/
def execAdcAD (s : State) : Result := .next (alu .adc (.reg .d) s)

/-- `ADC A,E` (R109). -/
def execAdcAE (s : State) : Result := .next (alu .adc (.reg .e) s)

/-- `ADC A,H` (R109). -/
def execAdcAH (s : State) : Result := .next (alu .adc (.reg .h) s)

/-- `ADC A,L` (R109). -/
def execAdcAL (s : State) : Result := .next (alu .adc (.reg .l) s)

/-- `ADC A,(HL)` (R110). -/
def execAdcAIndHl (s : State) : Result := .next (alu .adc .indHl s)

/-- `ADC A,A` (R109). -/
def execAdcAA (s : State) : Result := .next (alu .adc (.reg .a) s)

/-- `ADC A,d8` (R111). -/
def execAdcAD8 (n : Byte) (s : State) : Result := .next (alu .adc (.imm n) s)

/-! ### SUB -/

/-- `SUB B` (R112). -/
def execSubB (s : State) : Result := .next (alu .sub (.reg .b) s)

/-- `SUB C` (R112). -/
def execSubC (s : State) : Result := .next (alu .sub (.reg .c) s)

/-- `SUB D` (R112). -/
def execSubD (s : State) : Result := .next (alu .sub (.reg .d) s)

/-- `SUB E` (R112). -/
def execSubE (s : State) : Result := .next (alu .sub (.reg .e) s)

/-- `SUB H` (R112). -/
def execSubH (s : State) : Result := .next (alu .sub (.reg .h) s)

/-- `SUB L` (R112). -/
def execSubL (s : State) : Result := .next (alu .sub (.reg .l) s)

/-- `SUB (HL)` (R113). -/
def execSubIndHl (s : State) : Result := .next (alu .sub .indHl s)

/-- `SUB A` (R112). -/
def execSubA (s : State) : Result := .next (alu .sub (.reg .a) s)

/-- `SUB d8` (R114). -/
def execSubD8 (n : Byte) (s : State) : Result := .next (alu .sub (.imm n) s)

/-! ### SBC -/

/-- `SBC A,B` (R115). -/
def execSbcAB (s : State) : Result := .next (alu .sbc (.reg .b) s)

/-- `SBC A,C` (R115). -/
def execSbcAC (s : State) : Result := .next (alu .sbc (.reg .c) s)

/-- `SBC A,D` (R115). -/
def execSbcAD (s : State) : Result := .next (alu .sbc (.reg .d) s)

/-- `SBC A,E` (R115). -/
def execSbcAE (s : State) : Result := .next (alu .sbc (.reg .e) s)

/-- `SBC A,H` (R115). -/
def execSbcAH (s : State) : Result := .next (alu .sbc (.reg .h) s)

/-- `SBC A,L` (R115). -/
def execSbcAL (s : State) : Result := .next (alu .sbc (.reg .l) s)

/-- `SBC A,(HL)` (R116). -/
def execSbcAIndHl (s : State) : Result := .next (alu .sbc .indHl s)

/-- `SBC A,A` (R115). -/
def execSbcAA (s : State) : Result := .next (alu .sbc (.reg .a) s)

/-- `SBC A,d8` (R117). -/
def execSbcAD8 (n : Byte) (s : State) : Result := .next (alu .sbc (.imm n) s)

/-! ### AND -/

/-- `AND B` (R118). -/
def execAndB (s : State) : Result := .next (alu .and (.reg .b) s)

/-- `AND C` (R118). -/
def execAndC (s : State) : Result := .next (alu .and (.reg .c) s)

/-- `AND D` (R118). -/
def execAndD (s : State) : Result := .next (alu .and (.reg .d) s)

/-- `AND E` (R118). -/
def execAndE (s : State) : Result := .next (alu .and (.reg .e) s)

/-- `AND H` (R118). -/
def execAndH (s : State) : Result := .next (alu .and (.reg .h) s)

/-- `AND L` (R118). -/
def execAndL (s : State) : Result := .next (alu .and (.reg .l) s)

/-- `AND (HL)` (R119). -/
def execAndIndHl (s : State) : Result := .next (alu .and .indHl s)

/-- `AND A` (R118). -/
def execAndA (s : State) : Result := .next (alu .and (.reg .a) s)

/-- `AND d8` (R120). -/
def execAndD8 (n : Byte) (s : State) : Result := .next (alu .and (.imm n) s)

/-! ### XOR -/

/-- `XOR B` (R121). -/
def execXorB (s : State) : Result := .next (alu .xor (.reg .b) s)

/-- `XOR C` (R121). -/
def execXorC (s : State) : Result := .next (alu .xor (.reg .c) s)

/-- `XOR D` (R121). -/
def execXorD (s : State) : Result := .next (alu .xor (.reg .d) s)

/-- `XOR E` (R121). -/
def execXorE (s : State) : Result := .next (alu .xor (.reg .e) s)

/-- `XOR H` (R121). -/
def execXorH (s : State) : Result := .next (alu .xor (.reg .h) s)

/-- `XOR L` (R121). -/
def execXorL (s : State) : Result := .next (alu .xor (.reg .l) s)

/-- `XOR (HL)` (R122). -/
def execXorIndHl (s : State) : Result := .next (alu .xor .indHl s)

/-- `XOR A` (R121). -/
def execXorA (s : State) : Result := .next (alu .xor (.reg .a) s)

/-- `XOR d8` (R123). -/
def execXorD8 (n : Byte) (s : State) : Result := .next (alu .xor (.imm n) s)

/-! ### OR -/

/-- `OR B` (R124). -/
def execOrB (s : State) : Result := .next (alu .or (.reg .b) s)

/-- `OR C` (R124). -/
def execOrC (s : State) : Result := .next (alu .or (.reg .c) s)

/-- `OR D` (R124). -/
def execOrD (s : State) : Result := .next (alu .or (.reg .d) s)

/-- `OR E` (R124). -/
def execOrE (s : State) : Result := .next (alu .or (.reg .e) s)

/-- `OR H` (R124). -/
def execOrH (s : State) : Result := .next (alu .or (.reg .h) s)

/-- `OR L` (R124). -/
def execOrL (s : State) : Result := .next (alu .or (.reg .l) s)

/-- `OR (HL)` (R125). -/
def execOrIndHl (s : State) : Result := .next (alu .or .indHl s)

/-- `OR A` (R124). -/
def execOrA (s : State) : Result := .next (alu .or (.reg .a) s)

/-- `OR d8` (R126). -/
def execOrD8 (n : Byte) (s : State) : Result := .next (alu .or (.imm n) s)

/-! ### CP -/

/-- `CP B` (R127). -/
def execCpB (s : State) : Result := .next (alu .cp (.reg .b) s)

/-- `CP C` (R127). -/
def execCpC (s : State) : Result := .next (alu .cp (.reg .c) s)

/-- `CP D` (R127). -/
def execCpD (s : State) : Result := .next (alu .cp (.reg .d) s)

/-- `CP E` (R127). -/
def execCpE (s : State) : Result := .next (alu .cp (.reg .e) s)

/-- `CP H` (R127). -/
def execCpH (s : State) : Result := .next (alu .cp (.reg .h) s)

/-- `CP L` (R127). -/
def execCpL (s : State) : Result := .next (alu .cp (.reg .l) s)

/-- `CP (HL)` (R128). -/
def execCpIndHl (s : State) : Result := .next (alu .cp .indHl s)

/-- `CP A` (R127). -/
def execCpA (s : State) : Result := .next (alu .cp (.reg .a) s)

/-- `CP d8` (R129). -/
def execCpD8 (n : Byte) (s : State) : Result := .next (alu .cp (.imm n) s)

/-! ### 16-bit additions -/

/-- `ADD HL,BC` (R131). -/
def execAddHlBc (s : State) : Result := .next (addHl .bc s)

/-- `ADD HL,DE` (R131). -/
def execAddHlDe (s : State) : Result := .next (addHl .de s)

/-- `ADD HL,HL` (R131). -/
def execAddHlHl (s : State) : Result := .next (addHl .hl s)

/-- `ADD HL,SP` (R131). -/
def execAddHlSp (s : State) : Result := .next (addHl .sp s)

/-- `ADD SP,e8` (R132). -/
def execAddSpE8 (e : Byte) (s : State) : Result := .next (addSp e s)

end Sys2Proof.Machine
end

