-- ==== Sys2Proof/Machine/Control.lean ====
section
/-! DEFINITION. The control-flow instructions (44_control_flow.md). A condition is tested on F as the step
finds it, no flag is written, and pc is written once (R231). -/

namespace Sys2Proof.Machine

/-- The target of `JR`: `trunc16(pc0 + 2 + sext(e))` (R223). -/
def jrTarget (e : Byte) (s : State) : Word := trunc16 (s.pc.toNat + 2 + sext e)

/-- `CALL a16`: push `next(3)`, then jump (R225). -/
def call (nn : Word) (s : State) : State := (s.push16 (s.nextPc 3)).jump nn

/-- `pc <- pop16()` (R227). -/
def popPc (s : State) : State := s.pop16.2.jump s.pop16.1

/-- `JP cc,a16` (R221). -/
def jpCond (cc : Cond) (nn : Word) (s : State) : State := if s.holds cc then s.jump nn else s.advance 3

/-- `JR cc,e8` (R224). -/
def jrCond (cc : Cond) (e : Byte) (s : State) : State :=
  if s.holds cc then s.jump (jrTarget e s) else s.advance 2

/-- `CALL cc,a16` (R226). -/
def callCond (cc : Cond) (nn : Word) (s : State) : State := if s.holds cc then call nn s else s.advance 3

/-- `RET cc` (R228). -/
def retCond (cc : Cond) (s : State) : State := if s.holds cc then popPc s else s.advance 1

/-- `RST n`: push `next(1)`, then jump to `y * 8` (R230). -/
def rst (y : Fin 8) (s : State) : State := (s.push16 (s.nextPc 1)).jump (trunc16 (y.val * 8))

/-- `JP a16` (R220). -/
def execJpA16 (nn : Word) (s : State) : Result := .next (s.jump nn)

/-- `JP HL` (R222). -/
def execJpHl (s : State) : Result := .next (s.jump s.hl)

/-- `JR e8` (R223). -/
def execJrE8 (e : Byte) (s : State) : Result := .next (s.jump (jrTarget e s))

/-- `CALL a16` (R225). -/
def execCallA16 (nn : Word) (s : State) : Result := .next (call nn s)

/-- `RET` (R227). -/
def execRet (s : State) : Result := .next (popPc s)

/-- `RETI` (R229). -/
def execReti (s : State) : Result := .next { popPc s with ime := true }

/-- `JP NZ,a16` (R221). -/
def execJpNzA16 (nn : Word) (s : State) : Result := .next (jpCond .nz nn s)

/-- `JR NZ,e8` (R224). -/
def execJrNzE8 (e : Byte) (s : State) : Result := .next (jrCond .nz e s)

/-- `CALL NZ,a16` (R226). -/
def execCallNzA16 (nn : Word) (s : State) : Result := .next (callCond .nz nn s)

/-- `RET NZ` (R228). -/
def execRetNz (s : State) : Result := .next (retCond .nz s)

/-- `JP Z,a16` (R221). -/
def execJpZA16 (nn : Word) (s : State) : Result := .next (jpCond .z nn s)

/-- `JR Z,e8` (R224). -/
def execJrZE8 (e : Byte) (s : State) : Result := .next (jrCond .z e s)

/-- `CALL Z,a16` (R226). -/
def execCallZA16 (nn : Word) (s : State) : Result := .next (callCond .z nn s)

/-- `RET Z` (R228). -/
def execRetZ (s : State) : Result := .next (retCond .z s)

/-- `JP NC,a16` (R221). -/
def execJpNcA16 (nn : Word) (s : State) : Result := .next (jpCond .nc nn s)

/-- `JR NC,e8` (R224). -/
def execJrNcE8 (e : Byte) (s : State) : Result := .next (jrCond .nc e s)

/-- `CALL NC,a16` (R226). -/
def execCallNcA16 (nn : Word) (s : State) : Result := .next (callCond .nc nn s)

/-- `RET NC` (R228). -/
def execRetNc (s : State) : Result := .next (retCond .nc s)

/-- `JP C,a16` (R221). -/
def execJpCA16 (nn : Word) (s : State) : Result := .next (jpCond .c nn s)

/-- `JR C,e8` (R224). -/
def execJrCE8 (e : Byte) (s : State) : Result := .next (jrCond .c e s)

/-- `CALL C,a16` (R226). -/
def execCallCA16 (nn : Word) (s : State) : Result := .next (callCond .c nn s)

/-- `RET C` (R228). -/
def execRetC (s : State) : Result := .next (retCond .c s)

/-- `RST 0x00` (R230). -/
def execRst00 (s : State) : Result := .next (rst 0 s)

/-- `RST 0x08` (R230). -/
def execRst08 (s : State) : Result := .next (rst 1 s)

/-- `RST 0x10` (R230). -/
def execRst10 (s : State) : Result := .next (rst 2 s)

/-- `RST 0x18` (R230). -/
def execRst18 (s : State) : Result := .next (rst 3 s)

/-- `RST 0x20` (R230). -/
def execRst20 (s : State) : Result := .next (rst 4 s)

/-- `RST 0x28` (R230). -/
def execRst28 (s : State) : Result := .next (rst 5 s)

/-- `RST 0x30` (R230). -/
def execRst30 (s : State) : Result := .next (rst 6 s)

/-- `RST 0x38` (R230). -/
def execRst38 (s : State) : Result := .next (rst 7 s)

end Sys2Proof.Machine
end

