-- ==== Sys2Proof/Machine/IncDec.lean ====
section
/-! DEFINITION. INC and DEC (41_inc_dec.md). -/

namespace Sys2Proof.Machine

/-- `INC` on a register or the byte at HL (R140 and R141): C is left as it is. -/
def inc8 (k : Operand8) (s : State) : State :=
  let v := s.get8 k
  let res := trunc8 (v.toNat + 1)
  ((s.set8 k res).setZnh (res == 0) false (decide (lowNibble v = 0xF))).advance 1

/-- `DEC` on a register or the byte at HL (R142 and R143): C is left as it is. -/
def dec8 (k : Operand8) (s : State) : State :=
  let v := s.get8 k
  let res := trunc8 (v.toNat - 1)
  ((s.set8 k res).setZnh (res == 0) true (decide (lowNibble v = 0x0))).advance 1

/-- `INC rr` (R144): no flag is written. -/
def inc16 (p : Pair) (s : State) : State :=
  (s.setPair p (trunc16 ((s.getPair p).toNat + 1))).advance 1

/-- `DEC rr` (R145): no flag is written. -/
def dec16 (p : Pair) (s : State) : State :=
  (s.setPair p (trunc16 ((s.getPair p).toNat - 1))).advance 1

/-- `INC B` (R140). -/
def execIncB (s : State) : Result := .next (inc8 (.reg .b) s)

/-- `INC C` (R140). -/
def execIncC (s : State) : Result := .next (inc8 (.reg .c) s)

/-- `INC D` (R140). -/
def execIncD (s : State) : Result := .next (inc8 (.reg .d) s)

/-- `INC E` (R140). -/
def execIncE (s : State) : Result := .next (inc8 (.reg .e) s)

/-- `INC H` (R140). -/
def execIncH (s : State) : Result := .next (inc8 (.reg .h) s)

/-- `INC L` (R140). -/
def execIncL (s : State) : Result := .next (inc8 (.reg .l) s)

/-- `INC (HL)` (R141). -/
def execIncIndHl (s : State) : Result := .next (inc8 .indHl s)

/-- `INC A` (R140). -/
def execIncA (s : State) : Result := .next (inc8 (.reg .a) s)

/-- `DEC B` (R142). -/
def execDecB (s : State) : Result := .next (dec8 (.reg .b) s)

/-- `DEC C` (R142). -/
def execDecC (s : State) : Result := .next (dec8 (.reg .c) s)

/-- `DEC D` (R142). -/
def execDecD (s : State) : Result := .next (dec8 (.reg .d) s)

/-- `DEC E` (R142). -/
def execDecE (s : State) : Result := .next (dec8 (.reg .e) s)

/-- `DEC H` (R142). -/
def execDecH (s : State) : Result := .next (dec8 (.reg .h) s)

/-- `DEC L` (R142). -/
def execDecL (s : State) : Result := .next (dec8 (.reg .l) s)

/-- `DEC (HL)` (R143). -/
def execDecIndHl (s : State) : Result := .next (dec8 .indHl s)

/-- `DEC A` (R142). -/
def execDecA (s : State) : Result := .next (dec8 (.reg .a) s)

/-- `INC BC` (R144). -/
def execIncBc (s : State) : Result := .next (inc16 .bc s)

/-- `INC DE` (R144). -/
def execIncDe (s : State) : Result := .next (inc16 .de s)

/-- `INC HL` (R144). -/
def execIncHl (s : State) : Result := .next (inc16 .hl s)

/-- `INC SP` (R144). -/
def execIncSp (s : State) : Result := .next (inc16 .sp s)

/-- `DEC BC` (R145). -/
def execDecBc (s : State) : Result := .next (dec16 .bc s)

/-- `DEC DE` (R145). -/
def execDecDe (s : State) : Result := .next (dec16 .de s)

/-- `DEC HL` (R145). -/
def execDecHl (s : State) : Result := .next (dec16 .hl s)

/-- `DEC SP` (R145). -/
def execDecSp (s : State) : Result := .next (dec16 .sp s)

end Sys2Proof.Machine
end

