-- ==== Sys2Proof/Machine/Load.lean ====
section
/-! DEFINITION. The loads, the stores and the stack instructions (43_load_store.md). -/

namespace Sys2Proof.Machine

/-- `LD r,src` (R180, R181 and R183): the source is read before the register is written. -/
def ldReg (r : Reg8) (src : Src8) (s : State) : State :=
  (s.setReg r (s.getSrc src)).advance (srcWidth src)

/-- `LD (HL),src` with a register or an immediate (R182 and R184). -/
def ldIndHl (src : Src8) (s : State) : State :=
  (s.write s.hl (s.getSrc src)).advance (srcWidth src)

/-- `LD rr,d16` (R185). -/
def ldPair (p : Pair) (nn : Word) (s : State) : State := (s.setPair p nn).advance 3

/-- A store of A (R186, R187, R190, R191, R194, R196 and R198): the access uses the old base, then HL moves. -/
def storeA (m : AddrMode) (s : State) : State :=
  ((s.write (s.effAddr m) s.a).postModify m).advance (modeWidth m)

/-- A load of A (R188, R189, R192, R193, R195, R197 and R199): the access uses the old base, then HL moves. -/
def loadA (m : AddrMode) (s : State) : State :=
  (({ s with a := s.read (s.effAddr m) }).postModify m).advance (modeWidth m)

/-- `LD (a16),SP` (R200): the low byte first, each byte translated on its own. -/
def storeSp (nn : Word) (s : State) : State :=
  ((s.write nn (loByte s.sp)).write (trunc16 (nn.toNat + 1)) (hiByte s.sp)).advance 3

/-- `LD SP,HL` (R201). -/
def ldSpFromHl (s : State) : State := ({ s with sp := s.hl }).advance 1

/-- `LD HL,SP+e8` (R202): SP is not written. -/
def ldHlFromSp (e : Byte) (s : State) : State :=
  let r := spadd s.sp e
  ((s.setHl r.res).setFlags false false r.h r.c).advance 2

/-- `PUSH rr` (R205). -/
def push (p : StackPair) (s : State) : State := (s.push16 (s.getStackPair p)).advance 1

/-- `POP rr` (R206 and R207): POP AF keeps F's bits 3..0 at zero. -/
def pop (p : StackPair) (s : State) : State := (s.pop16.2.setStackPair p s.pop16.1).advance 1

/-! ### LD r,src -/

/-- `LD B,B` (R180). -/
def execLdBB (s : State) : Result := .next (ldReg .b (.reg .b) s)

/-- `LD B,C` (R180). -/
def execLdBC (s : State) : Result := .next (ldReg .b (.reg .c) s)

/-- `LD B,D` (R180). -/
def execLdBD (s : State) : Result := .next (ldReg .b (.reg .d) s)

/-- `LD B,E` (R180). -/
def execLdBE (s : State) : Result := .next (ldReg .b (.reg .e) s)

/-- `LD B,H` (R180). -/
def execLdBH (s : State) : Result := .next (ldReg .b (.reg .h) s)

/-- `LD B,L` (R180). -/
def execLdBL (s : State) : Result := .next (ldReg .b (.reg .l) s)

/-- `LD B,(HL)` (R181). -/
def execLdBIndHl (s : State) : Result := .next (ldReg .b .indHl s)

/-- `LD B,A` (R180). -/
def execLdBA (s : State) : Result := .next (ldReg .b (.reg .a) s)

/-- `LD B,d8` (R183). -/
def execLdBD8 (n : Byte) (s : State) : Result := .next (ldReg .b (.imm n) s)

/-- `LD C,B` (R180). -/
def execLdCB (s : State) : Result := .next (ldReg .c (.reg .b) s)

/-- `LD C,C` (R180). -/
def execLdCC (s : State) : Result := .next (ldReg .c (.reg .c) s)

/-- `LD C,D` (R180). -/
def execLdCD (s : State) : Result := .next (ldReg .c (.reg .d) s)

/-- `LD C,E` (R180). -/
def execLdCE (s : State) : Result := .next (ldReg .c (.reg .e) s)

/-- `LD C,H` (R180). -/
def execLdCH (s : State) : Result := .next (ldReg .c (.reg .h) s)

/-- `LD C,L` (R180). -/
def execLdCL (s : State) : Result := .next (ldReg .c (.reg .l) s)

/-- `LD C,(HL)` (R181). -/
def execLdCIndHl (s : State) : Result := .next (ldReg .c .indHl s)

/-- `LD C,A` (R180). -/
def execLdCA (s : State) : Result := .next (ldReg .c (.reg .a) s)

/-- `LD C,d8` (R183). -/
def execLdCD8 (n : Byte) (s : State) : Result := .next (ldReg .c (.imm n) s)

/-- `LD D,B` (R180). -/
def execLdDB (s : State) : Result := .next (ldReg .d (.reg .b) s)

/-- `LD D,C` (R180). -/
def execLdDC (s : State) : Result := .next (ldReg .d (.reg .c) s)

/-- `LD D,D` (R180). -/
def execLdDD (s : State) : Result := .next (ldReg .d (.reg .d) s)

/-- `LD D,E` (R180). -/
def execLdDE (s : State) : Result := .next (ldReg .d (.reg .e) s)

/-- `LD D,H` (R180). -/
def execLdDH (s : State) : Result := .next (ldReg .d (.reg .h) s)

/-- `LD D,L` (R180). -/
def execLdDL (s : State) : Result := .next (ldReg .d (.reg .l) s)

/-- `LD D,(HL)` (R181). -/
def execLdDIndHl (s : State) : Result := .next (ldReg .d .indHl s)

/-- `LD D,A` (R180). -/
def execLdDA (s : State) : Result := .next (ldReg .d (.reg .a) s)

/-- `LD D,d8` (R183). -/
def execLdDD8 (n : Byte) (s : State) : Result := .next (ldReg .d (.imm n) s)

/-- `LD E,B` (R180). -/
def execLdEB (s : State) : Result := .next (ldReg .e (.reg .b) s)

/-- `LD E,C` (R180). -/
def execLdEC (s : State) : Result := .next (ldReg .e (.reg .c) s)

/-- `LD E,D` (R180). -/
def execLdED (s : State) : Result := .next (ldReg .e (.reg .d) s)

/-- `LD E,E` (R180). -/
def execLdEE (s : State) : Result := .next (ldReg .e (.reg .e) s)

/-- `LD E,H` (R180). -/
def execLdEH (s : State) : Result := .next (ldReg .e (.reg .h) s)

/-- `LD E,L` (R180). -/
def execLdEL (s : State) : Result := .next (ldReg .e (.reg .l) s)

/-- `LD E,(HL)` (R181). -/
def execLdEIndHl (s : State) : Result := .next (ldReg .e .indHl s)

/-- `LD E,A` (R180). -/
def execLdEA (s : State) : Result := .next (ldReg .e (.reg .a) s)

/-- `LD E,d8` (R183). -/
def execLdED8 (n : Byte) (s : State) : Result := .next (ldReg .e (.imm n) s)

/-- `LD H,B` (R180). -/
def execLdHB (s : State) : Result := .next (ldReg .h (.reg .b) s)

/-- `LD H,C` (R180). -/
def execLdHC (s : State) : Result := .next (ldReg .h (.reg .c) s)

/-- `LD H,D` (R180). -/
def execLdHD (s : State) : Result := .next (ldReg .h (.reg .d) s)

/-- `LD H,E` (R180). -/
def execLdHE (s : State) : Result := .next (ldReg .h (.reg .e) s)

/-- `LD H,H` (R180). -/
def execLdHH (s : State) : Result := .next (ldReg .h (.reg .h) s)

/-- `LD H,L` (R180). -/
def execLdHL (s : State) : Result := .next (ldReg .h (.reg .l) s)

/-- `LD H,(HL)` (R181). -/
def execLdHIndHl (s : State) : Result := .next (ldReg .h .indHl s)

/-- `LD H,A` (R180). -/
def execLdHA (s : State) : Result := .next (ldReg .h (.reg .a) s)

/-- `LD H,d8` (R183). -/
def execLdHD8 (n : Byte) (s : State) : Result := .next (ldReg .h (.imm n) s)

/-- `LD L,B` (R180). -/
def execLdLB (s : State) : Result := .next (ldReg .l (.reg .b) s)

/-- `LD L,C` (R180). -/
def execLdLC (s : State) : Result := .next (ldReg .l (.reg .c) s)

/-- `LD L,D` (R180). -/
def execLdLD (s : State) : Result := .next (ldReg .l (.reg .d) s)

/-- `LD L,E` (R180). -/
def execLdLE (s : State) : Result := .next (ldReg .l (.reg .e) s)

/-- `LD L,H` (R180). -/
def execLdLH (s : State) : Result := .next (ldReg .l (.reg .h) s)

/-- `LD L,L` (R180). -/
def execLdLL (s : State) : Result := .next (ldReg .l (.reg .l) s)

/-- `LD L,(HL)` (R181). -/
def execLdLIndHl (s : State) : Result := .next (ldReg .l .indHl s)

/-- `LD L,A` (R180). -/
def execLdLA (s : State) : Result := .next (ldReg .l (.reg .a) s)

/-- `LD L,d8` (R183). -/
def execLdLD8 (n : Byte) (s : State) : Result := .next (ldReg .l (.imm n) s)

/-- `LD A,B` (R180). -/
def execLdAB (s : State) : Result := .next (ldReg .a (.reg .b) s)

/-- `LD A,C` (R180). -/
def execLdAC (s : State) : Result := .next (ldReg .a (.reg .c) s)

/-- `LD A,D` (R180). -/
def execLdAD (s : State) : Result := .next (ldReg .a (.reg .d) s)

/-- `LD A,E` (R180). -/
def execLdAE (s : State) : Result := .next (ldReg .a (.reg .e) s)

/-- `LD A,H` (R180). -/
def execLdAH (s : State) : Result := .next (ldReg .a (.reg .h) s)

/-- `LD A,L` (R180). -/
def execLdAL (s : State) : Result := .next (ldReg .a (.reg .l) s)

/-- `LD A,(HL)` (R181). -/
def execLdAIndHl (s : State) : Result := .next (ldReg .a .indHl s)

/-- `LD A,A` (R180). -/
def execLdAA (s : State) : Result := .next (ldReg .a (.reg .a) s)

/-- `LD A,d8` (R183). -/
def execLdAD8 (n : Byte) (s : State) : Result := .next (ldReg .a (.imm n) s)

/-! ### LD (HL),src -/

/-- `LD (HL),B` (R182). -/
def execLdIndHlB (s : State) : Result := .next (ldIndHl (.reg .b) s)

/-- `LD (HL),C` (R182). -/
def execLdIndHlC (s : State) : Result := .next (ldIndHl (.reg .c) s)

/-- `LD (HL),D` (R182). -/
def execLdIndHlD (s : State) : Result := .next (ldIndHl (.reg .d) s)

/-- `LD (HL),E` (R182). -/
def execLdIndHlE (s : State) : Result := .next (ldIndHl (.reg .e) s)

/-- `LD (HL),H` (R182). -/
def execLdIndHlH (s : State) : Result := .next (ldIndHl (.reg .h) s)

/-- `LD (HL),L` (R182). -/
def execLdIndHlL (s : State) : Result := .next (ldIndHl (.reg .l) s)

/-- `LD (HL),A` (R182). -/
def execLdIndHlA (s : State) : Result := .next (ldIndHl (.reg .a) s)

/-- `LD (HL),d8` (R184). -/
def execLdIndHlD8 (n : Byte) (s : State) : Result := .next (ldIndHl (.imm n) s)

/-! ### 16-bit loads -/

/-- `LD BC,d16` (R185). -/
def execLdBcD16 (nn : Word) (s : State) : Result := .next (ldPair .bc nn s)

/-- `LD DE,d16` (R185). -/
def execLdDeD16 (nn : Word) (s : State) : Result := .next (ldPair .de nn s)

/-- `LD HL,d16` (R185). -/
def execLdHlD16 (nn : Word) (s : State) : Result := .next (ldPair .hl nn s)

/-- `LD SP,d16` (R185). -/
def execLdSpD16 (nn : Word) (s : State) : Result := .next (ldPair .sp nn s)

/-- `LD (a16),SP` (R200). -/
def execLdIndA16Sp (nn : Word) (s : State) : Result := .next (storeSp nn s)

/-- `LD SP,HL` (R201). -/
def execLdSpHl (s : State) : Result := .next (ldSpFromHl s)

/-- `LD HL,SP+e8` (R202). -/
def execLdHlSpE8 (e : Byte) (s : State) : Result := .next (ldHlFromSp e s)

/-! ### Loads and stores of A -/

/-- `LD (BC),A` (R186). -/
def execLdIndBcA (s : State) : Result := .next (storeA .indBc s)

/-- `LD A,(BC)` (R188). -/
def execLdAIndBc (s : State) : Result := .next (loadA .indBc s)

/-- `LD (DE),A` (R187). -/
def execLdIndDeA (s : State) : Result := .next (storeA .indDe s)

/-- `LD A,(DE)` (R189). -/
def execLdAIndDe (s : State) : Result := .next (loadA .indDe s)

/-- `LD (HL+),A` (R190). -/
def execLdHliA (s : State) : Result := .next (storeA .hlInc s)

/-- `LD A,(HL+)` (R192). -/
def execLdAHli (s : State) : Result := .next (loadA .hlInc s)

/-- `LD (HL-),A` (R191). -/
def execLdHldA (s : State) : Result := .next (storeA .hlDec s)

/-- `LD A,(HL-)` (R193). -/
def execLdAHld (s : State) : Result := .next (loadA .hlDec s)

/-- `LDH (a8),A` (R194). -/
def execLdhIndA8A (n : Byte) (s : State) : Result := .next (storeA (.zeroPage n) s)

/-- `LDH A,(a8)` (R195). -/
def execLdhAIndA8 (n : Byte) (s : State) : Result := .next (loadA (.zeroPage n) s)

/-- `LD (C),A` (R196). -/
def execLdIndCA (s : State) : Result := .next (storeA .zeroPageC s)

/-- `LD A,(C)` (R197). -/
def execLdAIndC (s : State) : Result := .next (loadA .zeroPageC s)

/-- `LD (a16),A` (R198). -/
def execLdIndA16A (nn : Word) (s : State) : Result := .next (storeA (.abs nn) s)

/-- `LD A,(a16)` (R199). -/
def execLdAIndA16 (nn : Word) (s : State) : Result := .next (loadA (.abs nn) s)

/-! ### The stack -/

/-- `PUSH BC` (R205). -/
def execPushBc (s : State) : Result := .next (push .bc s)

/-- `POP BC` (R206). -/
def execPopBc (s : State) : Result := .next (pop .bc s)

/-- `PUSH DE` (R205). -/
def execPushDe (s : State) : Result := .next (push .de s)

/-- `POP DE` (R206). -/
def execPopDe (s : State) : Result := .next (pop .de s)

/-- `PUSH HL` (R205). -/
def execPushHl (s : State) : Result := .next (push .hl s)

/-- `POP HL` (R206). -/
def execPopHl (s : State) : Result := .next (pop .hl s)

/-- `PUSH AF` (R205). -/
def execPushAf (s : State) : Result := .next (push .af s)

/-- `POP AF` (R207). -/
def execPopAf (s : State) : Result := .next (pop .af s)

end Sys2Proof.Machine
end

