-- ==== Sys2Proof/Machine/Misc.lean ====
section
/-! DEFINITION. The flag and miscellaneous instructions (45_flag_misc.md) and the illegal bytes
(60_exceptions.md rule R271). -/

namespace Sys2Proof.Machine

/-- `DAA` (R255): N is left as it is. -/
def daa (s : State) : State :=
  let r := daaFn s.a (s.flag .n) (s.flag .h) (s.flag .c)
  ((({ s with a := r.1 }).setFlag .z (r.1 == 0)).setFlag .h false |>.setFlag .c r.2).advance 1

/-- `CPL` (R256): Z and C are left as they are. -/
def cpl (s : State) : State := ((({ s with a := ~~~s.a }).setFlag .n true).setFlag .h true).advance 1

/-- `NOP` (R250). -/
def execNop (s : State) : Result := .next (s.advance 1)

/-- `HALT` (R251). -/
def execHalt (s : State) : Result := .next (s.advance 1)

/-- `STOP` (R252): the operand byte plays no part. -/
def execStop (_n : Byte) (s : State) : Result := .next (s.advance s.cfg.stopLength.bytes)

/-- `DI` (R253). -/
def execDi (s : State) : Result := .next (({ s with ime := false }).advance 1)

/-- `EI` (R254). -/
def execEi (s : State) : Result := .next (({ s with ime := true }).advance 1)

/-- `DAA` (R255). -/
def execDaa (s : State) : Result := .next (daa s)

/-- `CPL` (R256). -/
def execCpl (s : State) : Result := .next (cpl s)

/-- `SCF` (R257). -/
def execScf (s : State) : Result := .next ((s.setNhc false false true).advance 1)

/-- `CCF` (R258). -/
def execCcf (s : State) : Result := .next ((s.setNhc false false (!s.flag .c)).advance 1)

/-- One of the eleven illegal bytes: `raise IllegalOpcode(op)`, with nothing written (R271). Given any other byte, the
handler raises the designator-contract abort (R272), which no decoded instruction reaches. -/
def execIllegal (op : Byte) (s : State) : Result :=
  if illegalBytes.contains op then raiseIllegalOpcode op s else raiseDesignatorFault op s

end Sys2Proof.Machine
end

