-- ==== Sys2Proof/Machine/Bit.lean ====
section
/-! DEFINITION. BIT, RES and SET (42_bit_rotate_shift.md rules R168 to R173). -/

namespace Sys2Proof.Machine

/-- `BIT b,k` (R168 and R169): Z is the complement of the bit; C and the operand are left as they are. -/
def bitTest (b : Fin 8) (k : Operand8) (s : State) : State :=
  (s.setZnh (!(s.get8 k).getLsbD b) false true).advance 2

/-- `RES b,k` (R170 and R171): no flag is written. -/
def bitReset (b : Fin 8) (k : Operand8) (s : State) : State :=
  (s.set8 k (s.get8 k &&& (0xFF ^^^ (1 <<< b.val)))).advance 2

/-- `SET b,k` (R172 and R173): no flag is written. -/
def bitSet (b : Fin 8) (k : Operand8) (s : State) : State :=
  (s.set8 k (s.get8 k ||| (1 <<< b.val))).advance 2

/-! ### BIT -/

/-- `BIT 0,B` (R168). -/
def execBit0B (s : State) : Result := .next (bitTest 0 (.reg .b) s)

/-- `BIT 0,C` (R168). -/
def execBit0C (s : State) : Result := .next (bitTest 0 (.reg .c) s)

/-- `BIT 0,D` (R168). -/
def execBit0D (s : State) : Result := .next (bitTest 0 (.reg .d) s)

/-- `BIT 0,E` (R168). -/
def execBit0E (s : State) : Result := .next (bitTest 0 (.reg .e) s)

/-- `BIT 0,H` (R168). -/
def execBit0H (s : State) : Result := .next (bitTest 0 (.reg .h) s)

/-- `BIT 0,L` (R168). -/
def execBit0L (s : State) : Result := .next (bitTest 0 (.reg .l) s)

/-- `BIT 0,(HL)` (R169). -/
def execBit0IndHl (s : State) : Result := .next (bitTest 0 .indHl s)

/-- `BIT 0,A` (R168). -/
def execBit0A (s : State) : Result := .next (bitTest 0 (.reg .a) s)

/-- `BIT 1,B` (R168). -/
def execBit1B (s : State) : Result := .next (bitTest 1 (.reg .b) s)

/-- `BIT 1,C` (R168). -/
def execBit1C (s : State) : Result := .next (bitTest 1 (.reg .c) s)

/-- `BIT 1,D` (R168). -/
def execBit1D (s : State) : Result := .next (bitTest 1 (.reg .d) s)

/-- `BIT 1,E` (R168). -/
def execBit1E (s : State) : Result := .next (bitTest 1 (.reg .e) s)

/-- `BIT 1,H` (R168). -/
def execBit1H (s : State) : Result := .next (bitTest 1 (.reg .h) s)

/-- `BIT 1,L` (R168). -/
def execBit1L (s : State) : Result := .next (bitTest 1 (.reg .l) s)

/-- `BIT 1,(HL)` (R169). -/
def execBit1IndHl (s : State) : Result := .next (bitTest 1 .indHl s)

/-- `BIT 1,A` (R168). -/
def execBit1A (s : State) : Result := .next (bitTest 1 (.reg .a) s)

/-- `BIT 2,B` (R168). -/
def execBit2B (s : State) : Result := .next (bitTest 2 (.reg .b) s)

/-- `BIT 2,C` (R168). -/
def execBit2C (s : State) : Result := .next (bitTest 2 (.reg .c) s)

/-- `BIT 2,D` (R168). -/
def execBit2D (s : State) : Result := .next (bitTest 2 (.reg .d) s)

/-- `BIT 2,E` (R168). -/
def execBit2E (s : State) : Result := .next (bitTest 2 (.reg .e) s)

/-- `BIT 2,H` (R168). -/
def execBit2H (s : State) : Result := .next (bitTest 2 (.reg .h) s)

/-- `BIT 2,L` (R168). -/
def execBit2L (s : State) : Result := .next (bitTest 2 (.reg .l) s)

/-- `BIT 2,(HL)` (R169). -/
def execBit2IndHl (s : State) : Result := .next (bitTest 2 .indHl s)

/-- `BIT 2,A` (R168). -/
def execBit2A (s : State) : Result := .next (bitTest 2 (.reg .a) s)

/-- `BIT 3,B` (R168). -/
def execBit3B (s : State) : Result := .next (bitTest 3 (.reg .b) s)

/-- `BIT 3,C` (R168). -/
def execBit3C (s : State) : Result := .next (bitTest 3 (.reg .c) s)

/-- `BIT 3,D` (R168). -/
def execBit3D (s : State) : Result := .next (bitTest 3 (.reg .d) s)

/-- `BIT 3,E` (R168). -/
def execBit3E (s : State) : Result := .next (bitTest 3 (.reg .e) s)

/-- `BIT 3,H` (R168). -/
def execBit3H (s : State) : Result := .next (bitTest 3 (.reg .h) s)

/-- `BIT 3,L` (R168). -/
def execBit3L (s : State) : Result := .next (bitTest 3 (.reg .l) s)

/-- `BIT 3,(HL)` (R169). -/
def execBit3IndHl (s : State) : Result := .next (bitTest 3 .indHl s)

/-- `BIT 3,A` (R168). -/
def execBit3A (s : State) : Result := .next (bitTest 3 (.reg .a) s)

/-- `BIT 4,B` (R168). -/
def execBit4B (s : State) : Result := .next (bitTest 4 (.reg .b) s)

/-- `BIT 4,C` (R168). -/
def execBit4C (s : State) : Result := .next (bitTest 4 (.reg .c) s)

/-- `BIT 4,D` (R168). -/
def execBit4D (s : State) : Result := .next (bitTest 4 (.reg .d) s)

/-- `BIT 4,E` (R168). -/
def execBit4E (s : State) : Result := .next (bitTest 4 (.reg .e) s)

/-- `BIT 4,H` (R168). -/
def execBit4H (s : State) : Result := .next (bitTest 4 (.reg .h) s)

/-- `BIT 4,L` (R168). -/
def execBit4L (s : State) : Result := .next (bitTest 4 (.reg .l) s)

/-- `BIT 4,(HL)` (R169). -/
def execBit4IndHl (s : State) : Result := .next (bitTest 4 .indHl s)

/-- `BIT 4,A` (R168). -/
def execBit4A (s : State) : Result := .next (bitTest 4 (.reg .a) s)

/-- `BIT 5,B` (R168). -/
def execBit5B (s : State) : Result := .next (bitTest 5 (.reg .b) s)

/-- `BIT 5,C` (R168). -/
def execBit5C (s : State) : Result := .next (bitTest 5 (.reg .c) s)

/-- `BIT 5,D` (R168). -/
def execBit5D (s : State) : Result := .next (bitTest 5 (.reg .d) s)

/-- `BIT 5,E` (R168). -/
def execBit5E (s : State) : Result := .next (bitTest 5 (.reg .e) s)

/-- `BIT 5,H` (R168). -/
def execBit5H (s : State) : Result := .next (bitTest 5 (.reg .h) s)

/-- `BIT 5,L` (R168). -/
def execBit5L (s : State) : Result := .next (bitTest 5 (.reg .l) s)

/-- `BIT 5,(HL)` (R169). -/
def execBit5IndHl (s : State) : Result := .next (bitTest 5 .indHl s)

/-- `BIT 5,A` (R168). -/
def execBit5A (s : State) : Result := .next (bitTest 5 (.reg .a) s)

/-- `BIT 6,B` (R168). -/
def execBit6B (s : State) : Result := .next (bitTest 6 (.reg .b) s)

/-- `BIT 6,C` (R168). -/
def execBit6C (s : State) : Result := .next (bitTest 6 (.reg .c) s)

/-- `BIT 6,D` (R168). -/
def execBit6D (s : State) : Result := .next (bitTest 6 (.reg .d) s)

/-- `BIT 6,E` (R168). -/
def execBit6E (s : State) : Result := .next (bitTest 6 (.reg .e) s)

/-- `BIT 6,H` (R168). -/
def execBit6H (s : State) : Result := .next (bitTest 6 (.reg .h) s)

/-- `BIT 6,L` (R168). -/
def execBit6L (s : State) : Result := .next (bitTest 6 (.reg .l) s)

/-- `BIT 6,(HL)` (R169). -/
def execBit6IndHl (s : State) : Result := .next (bitTest 6 .indHl s)

/-- `BIT 6,A` (R168). -/
def execBit6A (s : State) : Result := .next (bitTest 6 (.reg .a) s)

/-- `BIT 7,B` (R168). -/
def execBit7B (s : State) : Result := .next (bitTest 7 (.reg .b) s)

/-- `BIT 7,C` (R168). -/
def execBit7C (s : State) : Result := .next (bitTest 7 (.reg .c) s)

/-- `BIT 7,D` (R168). -/
def execBit7D (s : State) : Result := .next (bitTest 7 (.reg .d) s)

/-- `BIT 7,E` (R168). -/
def execBit7E (s : State) : Result := .next (bitTest 7 (.reg .e) s)

/-- `BIT 7,H` (R168). -/
def execBit7H (s : State) : Result := .next (bitTest 7 (.reg .h) s)

/-- `BIT 7,L` (R168). -/
def execBit7L (s : State) : Result := .next (bitTest 7 (.reg .l) s)

/-- `BIT 7,(HL)` (R169). -/
def execBit7IndHl (s : State) : Result := .next (bitTest 7 .indHl s)

/-- `BIT 7,A` (R168). -/
def execBit7A (s : State) : Result := .next (bitTest 7 (.reg .a) s)

/-! ### RES -/

/-- `RES 0,B` (R170). -/
def execRes0B (s : State) : Result := .next (bitReset 0 (.reg .b) s)

/-- `RES 0,C` (R170). -/
def execRes0C (s : State) : Result := .next (bitReset 0 (.reg .c) s)

/-- `RES 0,D` (R170). -/
def execRes0D (s : State) : Result := .next (bitReset 0 (.reg .d) s)

/-- `RES 0,E` (R170). -/
def execRes0E (s : State) : Result := .next (bitReset 0 (.reg .e) s)

/-- `RES 0,H` (R170). -/
def execRes0H (s : State) : Result := .next (bitReset 0 (.reg .h) s)

/-- `RES 0,L` (R170). -/
def execRes0L (s : State) : Result := .next (bitReset 0 (.reg .l) s)

/-- `RES 0,(HL)` (R171). -/
def execRes0IndHl (s : State) : Result := .next (bitReset 0 .indHl s)

/-- `RES 0,A` (R170). -/
def execRes0A (s : State) : Result := .next (bitReset 0 (.reg .a) s)

/-- `RES 1,B` (R170). -/
def execRes1B (s : State) : Result := .next (bitReset 1 (.reg .b) s)

/-- `RES 1,C` (R170). -/
def execRes1C (s : State) : Result := .next (bitReset 1 (.reg .c) s)

/-- `RES 1,D` (R170). -/
def execRes1D (s : State) : Result := .next (bitReset 1 (.reg .d) s)

/-- `RES 1,E` (R170). -/
def execRes1E (s : State) : Result := .next (bitReset 1 (.reg .e) s)

/-- `RES 1,H` (R170). -/
def execRes1H (s : State) : Result := .next (bitReset 1 (.reg .h) s)

/-- `RES 1,L` (R170). -/
def execRes1L (s : State) : Result := .next (bitReset 1 (.reg .l) s)

/-- `RES 1,(HL)` (R171). -/
def execRes1IndHl (s : State) : Result := .next (bitReset 1 .indHl s)

/-- `RES 1,A` (R170). -/
def execRes1A (s : State) : Result := .next (bitReset 1 (.reg .a) s)

/-- `RES 2,B` (R170). -/
def execRes2B (s : State) : Result := .next (bitReset 2 (.reg .b) s)

/-- `RES 2,C` (R170). -/
def execRes2C (s : State) : Result := .next (bitReset 2 (.reg .c) s)

/-- `RES 2,D` (R170). -/
def execRes2D (s : State) : Result := .next (bitReset 2 (.reg .d) s)

/-- `RES 2,E` (R170). -/
def execRes2E (s : State) : Result := .next (bitReset 2 (.reg .e) s)

/-- `RES 2,H` (R170). -/
def execRes2H (s : State) : Result := .next (bitReset 2 (.reg .h) s)

/-- `RES 2,L` (R170). -/
def execRes2L (s : State) : Result := .next (bitReset 2 (.reg .l) s)

/-- `RES 2,(HL)` (R171). -/
def execRes2IndHl (s : State) : Result := .next (bitReset 2 .indHl s)

/-- `RES 2,A` (R170). -/
def execRes2A (s : State) : Result := .next (bitReset 2 (.reg .a) s)

/-- `RES 3,B` (R170). -/
def execRes3B (s : State) : Result := .next (bitReset 3 (.reg .b) s)

/-- `RES 3,C` (R170). -/
def execRes3C (s : State) : Result := .next (bitReset 3 (.reg .c) s)

/-- `RES 3,D` (R170). -/
def execRes3D (s : State) : Result := .next (bitReset 3 (.reg .d) s)

/-- `RES 3,E` (R170). -/
def execRes3E (s : State) : Result := .next (bitReset 3 (.reg .e) s)

/-- `RES 3,H` (R170). -/
def execRes3H (s : State) : Result := .next (bitReset 3 (.reg .h) s)

/-- `RES 3,L` (R170). -/
def execRes3L (s : State) : Result := .next (bitReset 3 (.reg .l) s)

/-- `RES 3,(HL)` (R171). -/
def execRes3IndHl (s : State) : Result := .next (bitReset 3 .indHl s)

/-- `RES 3,A` (R170). -/
def execRes3A (s : State) : Result := .next (bitReset 3 (.reg .a) s)

/-- `RES 4,B` (R170). -/
def execRes4B (s : State) : Result := .next (bitReset 4 (.reg .b) s)

/-- `RES 4,C` (R170). -/
def execRes4C (s : State) : Result := .next (bitReset 4 (.reg .c) s)

/-- `RES 4,D` (R170). -/
def execRes4D (s : State) : Result := .next (bitReset 4 (.reg .d) s)

/-- `RES 4,E` (R170). -/
def execRes4E (s : State) : Result := .next (bitReset 4 (.reg .e) s)

/-- `RES 4,H` (R170). -/
def execRes4H (s : State) : Result := .next (bitReset 4 (.reg .h) s)

/-- `RES 4,L` (R170). -/
def execRes4L (s : State) : Result := .next (bitReset 4 (.reg .l) s)

/-- `RES 4,(HL)` (R171). -/
def execRes4IndHl (s : State) : Result := .next (bitReset 4 .indHl s)

/-- `RES 4,A` (R170). -/
def execRes4A (s : State) : Result := .next (bitReset 4 (.reg .a) s)

/-- `RES 5,B` (R170). -/
def execRes5B (s : State) : Result := .next (bitReset 5 (.reg .b) s)

/-- `RES 5,C` (R170). -/
def execRes5C (s : State) : Result := .next (bitReset 5 (.reg .c) s)

/-- `RES 5,D` (R170). -/
def execRes5D (s : State) : Result := .next (bitReset 5 (.reg .d) s)

/-- `RES 5,E` (R170). -/
def execRes5E (s : State) : Result := .next (bitReset 5 (.reg .e) s)

/-- `RES 5,H` (R170). -/
def execRes5H (s : State) : Result := .next (bitReset 5 (.reg .h) s)

/-- `RES 5,L` (R170). -/
def execRes5L (s : State) : Result := .next (bitReset 5 (.reg .l) s)

/-- `RES 5,(HL)` (R171). -/
def execRes5IndHl (s : State) : Result := .next (bitReset 5 .indHl s)

/-- `RES 5,A` (R170). -/
def execRes5A (s : State) : Result := .next (bitReset 5 (.reg .a) s)

/-- `RES 6,B` (R170). -/
def execRes6B (s : State) : Result := .next (bitReset 6 (.reg .b) s)

/-- `RES 6,C` (R170). -/
def execRes6C (s : State) : Result := .next (bitReset 6 (.reg .c) s)

/-- `RES 6,D` (R170). -/
def execRes6D (s : State) : Result := .next (bitReset 6 (.reg .d) s)

/-- `RES 6,E` (R170). -/
def execRes6E (s : State) : Result := .next (bitReset 6 (.reg .e) s)

/-- `RES 6,H` (R170). -/
def execRes6H (s : State) : Result := .next (bitReset 6 (.reg .h) s)

/-- `RES 6,L` (R170). -/
def execRes6L (s : State) : Result := .next (bitReset 6 (.reg .l) s)

/-- `RES 6,(HL)` (R171). -/
def execRes6IndHl (s : State) : Result := .next (bitReset 6 .indHl s)

/-- `RES 6,A` (R170). -/
def execRes6A (s : State) : Result := .next (bitReset 6 (.reg .a) s)

/-- `RES 7,B` (R170). -/
def execRes7B (s : State) : Result := .next (bitReset 7 (.reg .b) s)

/-- `RES 7,C` (R170). -/
def execRes7C (s : State) : Result := .next (bitReset 7 (.reg .c) s)

/-- `RES 7,D` (R170). -/
def execRes7D (s : State) : Result := .next (bitReset 7 (.reg .d) s)

/-- `RES 7,E` (R170). -/
def execRes7E (s : State) : Result := .next (bitReset 7 (.reg .e) s)

/-- `RES 7,H` (R170). -/
def execRes7H (s : State) : Result := .next (bitReset 7 (.reg .h) s)

/-- `RES 7,L` (R170). -/
def execRes7L (s : State) : Result := .next (bitReset 7 (.reg .l) s)

/-- `RES 7,(HL)` (R171). -/
def execRes7IndHl (s : State) : Result := .next (bitReset 7 .indHl s)

/-- `RES 7,A` (R170). -/
def execRes7A (s : State) : Result := .next (bitReset 7 (.reg .a) s)

/-! ### SET -/

/-- `SET 0,B` (R172). -/
def execSet0B (s : State) : Result := .next (bitSet 0 (.reg .b) s)

/-- `SET 0,C` (R172). -/
def execSet0C (s : State) : Result := .next (bitSet 0 (.reg .c) s)

/-- `SET 0,D` (R172). -/
def execSet0D (s : State) : Result := .next (bitSet 0 (.reg .d) s)

/-- `SET 0,E` (R172). -/
def execSet0E (s : State) : Result := .next (bitSet 0 (.reg .e) s)

/-- `SET 0,H` (R172). -/
def execSet0H (s : State) : Result := .next (bitSet 0 (.reg .h) s)

/-- `SET 0,L` (R172). -/
def execSet0L (s : State) : Result := .next (bitSet 0 (.reg .l) s)

/-- `SET 0,(HL)` (R173). -/
def execSet0IndHl (s : State) : Result := .next (bitSet 0 .indHl s)

/-- `SET 0,A` (R172). -/
def execSet0A (s : State) : Result := .next (bitSet 0 (.reg .a) s)

/-- `SET 1,B` (R172). -/
def execSet1B (s : State) : Result := .next (bitSet 1 (.reg .b) s)

/-- `SET 1,C` (R172). -/
def execSet1C (s : State) : Result := .next (bitSet 1 (.reg .c) s)

/-- `SET 1,D` (R172). -/
def execSet1D (s : State) : Result := .next (bitSet 1 (.reg .d) s)

/-- `SET 1,E` (R172). -/
def execSet1E (s : State) : Result := .next (bitSet 1 (.reg .e) s)

/-- `SET 1,H` (R172). -/
def execSet1H (s : State) : Result := .next (bitSet 1 (.reg .h) s)

/-- `SET 1,L` (R172). -/
def execSet1L (s : State) : Result := .next (bitSet 1 (.reg .l) s)

/-- `SET 1,(HL)` (R173). -/
def execSet1IndHl (s : State) : Result := .next (bitSet 1 .indHl s)

/-- `SET 1,A` (R172). -/
def execSet1A (s : State) : Result := .next (bitSet 1 (.reg .a) s)

/-- `SET 2,B` (R172). -/
def execSet2B (s : State) : Result := .next (bitSet 2 (.reg .b) s)

/-- `SET 2,C` (R172). -/
def execSet2C (s : State) : Result := .next (bitSet 2 (.reg .c) s)

/-- `SET 2,D` (R172). -/
def execSet2D (s : State) : Result := .next (bitSet 2 (.reg .d) s)

/-- `SET 2,E` (R172). -/
def execSet2E (s : State) : Result := .next (bitSet 2 (.reg .e) s)

/-- `SET 2,H` (R172). -/
def execSet2H (s : State) : Result := .next (bitSet 2 (.reg .h) s)

/-- `SET 2,L` (R172). -/
def execSet2L (s : State) : Result := .next (bitSet 2 (.reg .l) s)

/-- `SET 2,(HL)` (R173). -/
def execSet2IndHl (s : State) : Result := .next (bitSet 2 .indHl s)

/-- `SET 2,A` (R172). -/
def execSet2A (s : State) : Result := .next (bitSet 2 (.reg .a) s)

/-- `SET 3,B` (R172). -/
def execSet3B (s : State) : Result := .next (bitSet 3 (.reg .b) s)

/-- `SET 3,C` (R172). -/
def execSet3C (s : State) : Result := .next (bitSet 3 (.reg .c) s)

/-- `SET 3,D` (R172). -/
def execSet3D (s : State) : Result := .next (bitSet 3 (.reg .d) s)

/-- `SET 3,E` (R172). -/
def execSet3E (s : State) : Result := .next (bitSet 3 (.reg .e) s)

/-- `SET 3,H` (R172). -/
def execSet3H (s : State) : Result := .next (bitSet 3 (.reg .h) s)

/-- `SET 3,L` (R172). -/
def execSet3L (s : State) : Result := .next (bitSet 3 (.reg .l) s)

/-- `SET 3,(HL)` (R173). -/
def execSet3IndHl (s : State) : Result := .next (bitSet 3 .indHl s)

/-- `SET 3,A` (R172). -/
def execSet3A (s : State) : Result := .next (bitSet 3 (.reg .a) s)

/-- `SET 4,B` (R172). -/
def execSet4B (s : State) : Result := .next (bitSet 4 (.reg .b) s)

/-- `SET 4,C` (R172). -/
def execSet4C (s : State) : Result := .next (bitSet 4 (.reg .c) s)

/-- `SET 4,D` (R172). -/
def execSet4D (s : State) : Result := .next (bitSet 4 (.reg .d) s)

/-- `SET 4,E` (R172). -/
def execSet4E (s : State) : Result := .next (bitSet 4 (.reg .e) s)

/-- `SET 4,H` (R172). -/
def execSet4H (s : State) : Result := .next (bitSet 4 (.reg .h) s)

/-- `SET 4,L` (R172). -/
def execSet4L (s : State) : Result := .next (bitSet 4 (.reg .l) s)

/-- `SET 4,(HL)` (R173). -/
def execSet4IndHl (s : State) : Result := .next (bitSet 4 .indHl s)

/-- `SET 4,A` (R172). -/
def execSet4A (s : State) : Result := .next (bitSet 4 (.reg .a) s)

/-- `SET 5,B` (R172). -/
def execSet5B (s : State) : Result := .next (bitSet 5 (.reg .b) s)

/-- `SET 5,C` (R172). -/
def execSet5C (s : State) : Result := .next (bitSet 5 (.reg .c) s)

/-- `SET 5,D` (R172). -/
def execSet5D (s : State) : Result := .next (bitSet 5 (.reg .d) s)

/-- `SET 5,E` (R172). -/
def execSet5E (s : State) : Result := .next (bitSet 5 (.reg .e) s)

/-- `SET 5,H` (R172). -/
def execSet5H (s : State) : Result := .next (bitSet 5 (.reg .h) s)

/-- `SET 5,L` (R172). -/
def execSet5L (s : State) : Result := .next (bitSet 5 (.reg .l) s)

/-- `SET 5,(HL)` (R173). -/
def execSet5IndHl (s : State) : Result := .next (bitSet 5 .indHl s)

/-- `SET 5,A` (R172). -/
def execSet5A (s : State) : Result := .next (bitSet 5 (.reg .a) s)

/-- `SET 6,B` (R172). -/
def execSet6B (s : State) : Result := .next (bitSet 6 (.reg .b) s)

/-- `SET 6,C` (R172). -/
def execSet6C (s : State) : Result := .next (bitSet 6 (.reg .c) s)

/-- `SET 6,D` (R172). -/
def execSet6D (s : State) : Result := .next (bitSet 6 (.reg .d) s)

/-- `SET 6,E` (R172). -/
def execSet6E (s : State) : Result := .next (bitSet 6 (.reg .e) s)

/-- `SET 6,H` (R172). -/
def execSet6H (s : State) : Result := .next (bitSet 6 (.reg .h) s)

/-- `SET 6,L` (R172). -/
def execSet6L (s : State) : Result := .next (bitSet 6 (.reg .l) s)

/-- `SET 6,(HL)` (R173). -/
def execSet6IndHl (s : State) : Result := .next (bitSet 6 .indHl s)

/-- `SET 6,A` (R172). -/
def execSet6A (s : State) : Result := .next (bitSet 6 (.reg .a) s)

/-- `SET 7,B` (R172). -/
def execSet7B (s : State) : Result := .next (bitSet 7 (.reg .b) s)

/-- `SET 7,C` (R172). -/
def execSet7C (s : State) : Result := .next (bitSet 7 (.reg .c) s)

/-- `SET 7,D` (R172). -/
def execSet7D (s : State) : Result := .next (bitSet 7 (.reg .d) s)

/-- `SET 7,E` (R172). -/
def execSet7E (s : State) : Result := .next (bitSet 7 (.reg .e) s)

/-- `SET 7,H` (R172). -/
def execSet7H (s : State) : Result := .next (bitSet 7 (.reg .h) s)

/-- `SET 7,L` (R172). -/
def execSet7L (s : State) : Result := .next (bitSet 7 (.reg .l) s)

/-- `SET 7,(HL)` (R173). -/
def execSet7IndHl (s : State) : Result := .next (bitSet 7 .indHl s)

/-- `SET 7,A` (R172). -/
def execSet7A (s : State) : Result := .next (bitSet 7 (.reg .a) s)

end Sys2Proof.Machine
end

