-- ==== Sys2Proof/Machine/Shift.lean ====
section
/-! DEFINITION. The rotates and shifts (42_bit_rotate_shift.md rules R150 to R167 and R174 to R177). -/

namespace Sys2Proof.Machine

/-- A prefixed rotate or shift of a register or the byte at HL (R150 to R167). -/
def shift (op : ShiftOp) (k : Operand8) (s : State) : State :=
  let r := shiftFn op (s.get8 k) (s.flag .c)
  ((s.set8 k r.1).setFlags (r.1 == 0) false false r.2).advance 2

/-- A rotate of A in the primary map (R174 to R177): Z is cleared whatever the result. -/
def rotateA (op : ShiftOp) (s : State) : State :=
  let r := shiftFn op s.a (s.flag .c)
  (({ s with a := r.1 }).setFlags false false false r.2).advance 1

/-- `RLCA` (R174). -/
def execRlca (s : State) : Result := .next (rotateA .rlc s)

/-- `RRCA` (R175). -/
def execRrca (s : State) : Result := .next (rotateA .rrc s)

/-- `RLA` (R176). -/
def execRla (s : State) : Result := .next (rotateA .rl s)

/-- `RRA` (R177). -/
def execRra (s : State) : Result := .next (rotateA .rr s)

/-! ### RLC -/

/-- `RLC B` (R152). -/
def execRlcB (s : State) : Result := .next (shift .rlc (.reg .b) s)

/-- `RLC C` (R152). -/
def execRlcC (s : State) : Result := .next (shift .rlc (.reg .c) s)

/-- `RLC D` (R152). -/
def execRlcD (s : State) : Result := .next (shift .rlc (.reg .d) s)

/-- `RLC E` (R152). -/
def execRlcE (s : State) : Result := .next (shift .rlc (.reg .e) s)

/-- `RLC H` (R152). -/
def execRlcH (s : State) : Result := .next (shift .rlc (.reg .h) s)

/-- `RLC L` (R152). -/
def execRlcL (s : State) : Result := .next (shift .rlc (.reg .l) s)

/-- `RLC (HL)` (R153). -/
def execRlcIndHl (s : State) : Result := .next (shift .rlc .indHl s)

/-- `RLC A` (R152). -/
def execRlcA (s : State) : Result := .next (shift .rlc (.reg .a) s)

/-! ### RRC -/

/-- `RRC B` (R154). -/
def execRrcB (s : State) : Result := .next (shift .rrc (.reg .b) s)

/-- `RRC C` (R154). -/
def execRrcC (s : State) : Result := .next (shift .rrc (.reg .c) s)

/-- `RRC D` (R154). -/
def execRrcD (s : State) : Result := .next (shift .rrc (.reg .d) s)

/-- `RRC E` (R154). -/
def execRrcE (s : State) : Result := .next (shift .rrc (.reg .e) s)

/-- `RRC H` (R154). -/
def execRrcH (s : State) : Result := .next (shift .rrc (.reg .h) s)

/-- `RRC L` (R154). -/
def execRrcL (s : State) : Result := .next (shift .rrc (.reg .l) s)

/-- `RRC (HL)` (R155). -/
def execRrcIndHl (s : State) : Result := .next (shift .rrc .indHl s)

/-- `RRC A` (R154). -/
def execRrcA (s : State) : Result := .next (shift .rrc (.reg .a) s)

/-! ### RL -/

/-- `RL B` (R156). -/
def execRlB (s : State) : Result := .next (shift .rl (.reg .b) s)

/-- `RL C` (R156). -/
def execRlC (s : State) : Result := .next (shift .rl (.reg .c) s)

/-- `RL D` (R156). -/
def execRlD (s : State) : Result := .next (shift .rl (.reg .d) s)

/-- `RL E` (R156). -/
def execRlE (s : State) : Result := .next (shift .rl (.reg .e) s)

/-- `RL H` (R156). -/
def execRlH (s : State) : Result := .next (shift .rl (.reg .h) s)

/-- `RL L` (R156). -/
def execRlL (s : State) : Result := .next (shift .rl (.reg .l) s)

/-- `RL (HL)` (R157). -/
def execRlIndHl (s : State) : Result := .next (shift .rl .indHl s)

/-- `RL A` (R156). -/
def execRlA (s : State) : Result := .next (shift .rl (.reg .a) s)

/-! ### RR -/

/-- `RR B` (R158). -/
def execRrB (s : State) : Result := .next (shift .rr (.reg .b) s)

/-- `RR C` (R158). -/
def execRrC (s : State) : Result := .next (shift .rr (.reg .c) s)

/-- `RR D` (R158). -/
def execRrD (s : State) : Result := .next (shift .rr (.reg .d) s)

/-- `RR E` (R158). -/
def execRrE (s : State) : Result := .next (shift .rr (.reg .e) s)

/-- `RR H` (R158). -/
def execRrH (s : State) : Result := .next (shift .rr (.reg .h) s)

/-- `RR L` (R158). -/
def execRrL (s : State) : Result := .next (shift .rr (.reg .l) s)

/-- `RR (HL)` (R159). -/
def execRrIndHl (s : State) : Result := .next (shift .rr .indHl s)

/-- `RR A` (R158). -/
def execRrA (s : State) : Result := .next (shift .rr (.reg .a) s)

/-! ### SLA -/

/-- `SLA B` (R160). -/
def execSlaB (s : State) : Result := .next (shift .sla (.reg .b) s)

/-- `SLA C` (R160). -/
def execSlaC (s : State) : Result := .next (shift .sla (.reg .c) s)

/-- `SLA D` (R160). -/
def execSlaD (s : State) : Result := .next (shift .sla (.reg .d) s)

/-- `SLA E` (R160). -/
def execSlaE (s : State) : Result := .next (shift .sla (.reg .e) s)

/-- `SLA H` (R160). -/
def execSlaH (s : State) : Result := .next (shift .sla (.reg .h) s)

/-- `SLA L` (R160). -/
def execSlaL (s : State) : Result := .next (shift .sla (.reg .l) s)

/-- `SLA (HL)` (R161). -/
def execSlaIndHl (s : State) : Result := .next (shift .sla .indHl s)

/-- `SLA A` (R160). -/
def execSlaA (s : State) : Result := .next (shift .sla (.reg .a) s)

/-! ### SRA -/

/-- `SRA B` (R162). -/
def execSraB (s : State) : Result := .next (shift .sra (.reg .b) s)

/-- `SRA C` (R162). -/
def execSraC (s : State) : Result := .next (shift .sra (.reg .c) s)

/-- `SRA D` (R162). -/
def execSraD (s : State) : Result := .next (shift .sra (.reg .d) s)

/-- `SRA E` (R162). -/
def execSraE (s : State) : Result := .next (shift .sra (.reg .e) s)

/-- `SRA H` (R162). -/
def execSraH (s : State) : Result := .next (shift .sra (.reg .h) s)

/-- `SRA L` (R162). -/
def execSraL (s : State) : Result := .next (shift .sra (.reg .l) s)

/-- `SRA (HL)` (R163). -/
def execSraIndHl (s : State) : Result := .next (shift .sra .indHl s)

/-- `SRA A` (R162). -/
def execSraA (s : State) : Result := .next (shift .sra (.reg .a) s)

/-! ### SWAP -/

/-- `SWAP B` (R164). -/
def execSwapB (s : State) : Result := .next (shift .swap (.reg .b) s)

/-- `SWAP C` (R164). -/
def execSwapC (s : State) : Result := .next (shift .swap (.reg .c) s)

/-- `SWAP D` (R164). -/
def execSwapD (s : State) : Result := .next (shift .swap (.reg .d) s)

/-- `SWAP E` (R164). -/
def execSwapE (s : State) : Result := .next (shift .swap (.reg .e) s)

/-- `SWAP H` (R164). -/
def execSwapH (s : State) : Result := .next (shift .swap (.reg .h) s)

/-- `SWAP L` (R164). -/
def execSwapL (s : State) : Result := .next (shift .swap (.reg .l) s)

/-- `SWAP (HL)` (R165). -/
def execSwapIndHl (s : State) : Result := .next (shift .swap .indHl s)

/-- `SWAP A` (R164). -/
def execSwapA (s : State) : Result := .next (shift .swap (.reg .a) s)

/-! ### SRL -/

/-- `SRL B` (R166). -/
def execSrlB (s : State) : Result := .next (shift .srl (.reg .b) s)

/-- `SRL C` (R166). -/
def execSrlC (s : State) : Result := .next (shift .srl (.reg .c) s)

/-- `SRL D` (R166). -/
def execSrlD (s : State) : Result := .next (shift .srl (.reg .d) s)

/-- `SRL E` (R166). -/
def execSrlE (s : State) : Result := .next (shift .srl (.reg .e) s)

/-- `SRL H` (R166). -/
def execSrlH (s : State) : Result := .next (shift .srl (.reg .h) s)

/-- `SRL L` (R166). -/
def execSrlL (s : State) : Result := .next (shift .srl (.reg .l) s)

/-- `SRL (HL)` (R167). -/
def execSrlIndHl (s : State) : Result := .next (shift .srl .indHl s)

/-- `SRL A` (R166). -/
def execSrlA (s : State) : Result := .next (shift .srl (.reg .a) s)

end Sys2Proof.Machine
end

