-- ==== Sys2Proof/Machine/Prefix.lean ====
section
/-! DEFINITION. The prefix 0xCB as the row PREFIX CB has it (30_encoding.md rules R85 and R89). -/

namespace Sys2Proof.Machine

/-- `PREFIX CB`: execute the rule of `cbop` in the secondary map, by its fields (R85, 42_bit_rotate_shift.md rule
R150); one instruction of width 2. -/
def execPrefixCb (cbop : Byte) (s : State) : Result :=
  let k := operandOf (fieldZ cbop)
  match fieldX cbop with
  | 0 => .next (shift (shiftOpOf (fieldY cbop)) k s)
  | 1 => .next (bitTest (fieldY cbop) k s)
  | 2 => .next (bitReset (fieldY cbop) k s)
  | 3 => .next (bitSet (fieldY cbop) k s)

end Sys2Proof.Machine
end

