-- ==== Sys2Proof/Machine/Step.lean ====
section
/-! DEFINITION. The step (30_encoding.md rule R89), and the placing of an instruction where the step fetches. -/

namespace Sys2Proof.Machine

/-- One step: fetch the bytes at pc through the byte interface, decode, and run the instruction. The handler alone
sets the next pc. The three bytes an instruction can have are taken together: a read has no side effect (20_memory.md
rule R58), so reading past a short instruction's end is not observable. -/
def step (s : State) : Host.Outcome State Fault Refusal :=
  exec (decodeBytes (s.read s.pc) (s.read (s.pc + 1)) (s.read (s.pc + 2))) s

/-- The instruction whose bits spec/opcode_table.json numbers as `w`, with the bits from `nbits` up to three bytes
zero, stored at pc, pc + 1 and pc + 2 through the byte interface: the next step fetches and runs it. -/
def State.withFetchWord (s : State) (nbits w : Nat) : State :=
  let (o, b1, b2) := tableBytes nbits w
  s.writeBlock s.pc [o, b1, b2]

end Sys2Proof.Machine
end

