-- ==== Sys2Proof/Machine/Launch.lean ====
section
/-! DEFINITION. The launch (70_reset_and_hazards.md rules R300 to R309): from an empty memory to the state at the first
step, for every value of the parameters that 00_scope.md rule R7 leaves open. -/

namespace Sys2Proof.Machine

/-- `RESET_REGS` (R305). -/
structure ResetRegs where
  a : Byte
  f : Byte
  b : Byte
  c : Byte
  d : Byte
  e : Byte
  h : Byte
  l : Byte
  deriving DecidableEq, Repr

/-- The bytes the boot collaborator writes (R304): tiles into [0x8000, 0x97FF], tile indices into [0x9904, 0x990F]
and [0x9924, 0x992F]. -/
structure BootVram where
  tiles : List Byte
  upperRow : List Byte
  lowerRow : List Byte
  deriving DecidableEq, Repr

/-- The parameters have the sizes their regions have, and F's bits 3..0 are zero (R304 and R305). -/
def BootVram.wf (v : BootVram) : Bool :=
  v.tiles.length == 0x1800 && v.upperRow.length == 12 && v.lowerRow.length == 12

/-- F's bits 3..0 are zero (R305). -/
def ResetRegs.wf (r : ResetRegs) : Bool := r.f &&& 0x0F == 0

/-- The boot collaborator's bytes when they are all zero. -/
def BootVram.zero : BootVram :=
  ⟨List.replicate 0x1800 0, List.replicate 12 0, List.replicate 12 0⟩

/-- The registers when they are all zero. -/
def ResetRegs.zero : ResetRegs := ⟨0, 0, 0, 0, 0, 0, 0, 0⟩

/-- The default of `SP_RESET` (R306). -/
def spResetDefault : Word := 0xFFFE

/-- A cartridge the launch takes: at least 0x8000 bytes, and byte 0x0147 declares "ROM only", 0x00 (R302). -/
def cartAccepted (image : List Byte) : Bool :=
  decide (0x8000 ≤ image.length) && image.getD 0x0147 0xFF == 0x00

/-- The bank copy (R303): `Mem[i] <- CART[i]` for i below 0x8000, straight into the storage. -/
def copyBanks (image : List Byte) : Nat → Memory → Memory
  | 0, m => m
  | n + 1, m => copyBanks image n (m.setCell n (image.getD n 0))

/-- Stages 4 and 5 (R304 to R308): the boot collaborator writes through the byte interface, then the registers, SP, pc
and IME take their values. -/
def launchState (m : Memory) (vram : BootVram) (regs : ResetRegs) (sp : Word) (cfg : Config) : State :=
  let s0 : State :=
    { a := regs.a, f := 0, b := regs.b, c := regs.c, d := regs.d, e := regs.e, h := regs.h, l := regs.l
      sp := sp, pc := 0x0100, ime := false, mem := m, cfg := cfg }
  (((s0.setF regs.f).writeBlock 0x8000 vram.tiles).writeBlock 0x9904 vram.upperRow).writeBlock 0x9924 vram.lowerRow

/-- The launch (R300): memory is cleared, a cartridge is checked and copied, a missing one leaves memory all zero
(R309), and an unsupported one refuses the launch before any step (R302). -/
def launch (cart : Option (List Byte)) (vram : BootVram) (regs : ResetRegs) (sp : Word) (cfg : Config) : Result :=
  match cart with
  | none => .next (launchState [] vram regs sp cfg)
  | some image =>
    if cartAccepted image then .next (launchState (copyBanks image 0x8000 []) vram regs sp cfg)
    else .refused .cartridgeRefused

end Sys2Proof.Machine
end

