-- ==== Sys2Proof/Machine/Run.lean ====
section
/-! DEFINITION. The host around the core (60_exceptions.md rules R283 and R284): what it does between steps, and how a
run ends. The core itself is `step`; nothing here changes it. -/

namespace Sys2Proof.Machine

/-- What the host may do at a step boundary (R283). The renderer only reads (`rendererView`). -/
inductive HostEvent where
  | step
  | timing (v : Byte)
  | stop
  deriving DecidableEq, Repr

/-- How a run stands (R284). `faulted` keeps the fault record. -/
inductive RunStatus where
  | running
  | stopped
  | faulted (record : Fault)
  | refused (reason : Refusal)
  deriving DecidableEq, Repr

/-- A run at a step boundary: how it stands, and the core's state, which a run that was refused at launch has not. -/
structure Run where
  status : RunStatus
  core : Option State
  deriving DecidableEq, Repr

/-- The run a launch begins (R300 and R302). -/
def Run.ofLaunch : Result → Run
  | .next s => ⟨.running, some s⟩
  | .fault r => ⟨.faulted r, none⟩
  | .refused r => ⟨.refused r, none⟩

/-- The run after one step from `s`: a fault ends it and keeps the state before the step (R270 and R271). -/
def Run.ofStep (s : State) : Result → Run
  | .next t => ⟨.running, some t⟩
  | .fault r => ⟨.faulted r, some s⟩
  | .refused r => ⟨.refused r, some s⟩

/-- One host event (R283): a step, the timing driver's byte for 0xFF44, or a stop. An ended run does not change. R283
places the timing driver and the stop "between any two steps", R284 the stop "at a step boundary"; that the boundary
before the first step counts too, so that both may come right after the launch, is a DESIGN CHOICE
(notes/assumptions/14.md). -/
def Run.event (r : Run) (ev : HostEvent) : Run :=
  match r.status, r.core with
  | .running, some s =>
    match ev with
    | .step => Run.ofStep s (step s)
    | .timing v => ⟨.running, some (s.write 0xFF44 v)⟩
    | .stop => ⟨.stopped, some s⟩
  | _, _ => r

/-- A schedule of the host, one event after the other. -/
def Run.events (r : Run) : List HostEvent → Run
  | [] => r
  | ev :: evs => Run.events (r.event ev) evs

/-- Whether the default host stops here: at the first step boundary with pc = 0xFFFF (R284). -/
def Run.atDefaultStop (r : Run) : Bool :=
  match r.core with
  | some s => s.pc == 0xFFFF
  | none => false

/-- At most `n` step boundaries under the host whose stop is the default one (R284, 92_eei_decisions.md D19). The spec
gives no default for what the host writes; that this host writes nothing to 0xFF44, and issues no stop of its own, is a
DESIGN CHOICE (notes/assumptions/15.md). `Run.events` runs every other schedule. -/
def Run.default (r : Run) : Nat → Run
  | 0 => r
  | n + 1 => if r.atDefaultStop then r.event .stop else Run.default (r.event .step) n

/-- What the renderer reads: [0x8000, 0x8FFF] and [0x9800, 0x9BFF] (R283). -/
def rendererView (s : State) : List Byte × List Byte :=
  (s.readBlock 0x8000 0x1000, s.readBlock 0x9800 0x400)

end Sys2Proof.Machine
end

