-- ==== Sys2Proof/Safety.lean ====
section
/-! DEFINITION. The terms claims are stated in: the invariant of the state, the flags byte written out, and which
instructions the whole-machine rules of 10_state.md single out. -/

namespace Sys2Proof.Machine

/-- Cells that no access reaches: storage 0xE000 to 0xFDFE (20_memory.md rule R52). -/
def hiddenCell (a : Nat) : Bool := decide (0xE000 ≤ a) && decide (a < 0xFDFF)

/-- The invariant of the state: storage in its canonical form, no byte stored behind the echo range, and F's bits
3..0 zero (20_memory.md rules R50 and R52, 10_state.md rule R22). -/
def State.inv (s : State) : Bool :=
  s.mem.wf && s.mem.all (fun cell => !hiddenCell cell.1) && (s.f &&& 0x0F == 0)

/-- F with the four flags Z, N, H, C and zeros below (10_state.md rule R21). -/
def flagByte (z n h c : Bool) : Byte :=
  BitVec.ofNat 8 (128 * z.toNat + 64 * n.toNat + 32 * h.toNat + 16 * c.toNat)

/-- A step's answer with its next state changed by `g`. -/
def mapNext (g : State → State) : Result → Result
  | .next s => .next (g s)
  | .fault r => .fault r
  | .refused r => .refused r

/-- The instructions that may write IME (10_state.md rule R28). -/
def writesIme : Instr → Bool
  | .di | .ei | .reti => true
  | _ => false

/-- The instructions that may write SP: those of 10_state.md rule R27 that do not only read it. -/
def writesSp : Instr → Bool
  | .pushBc | .pushDe | .pushHl | .pushAf | .popBc | .popDe | .popHl | .popAf => true
  | .callA16 _ | .callNzA16 _ | .callZA16 _ | .callNcA16 _ | .callCA16 _ => true
  | .ret | .retNz | .retZ | .retNc | .retC | .reti => true
  | .rst00 | .rst08 | .rst10 | .rst18 | .rst20 | .rst28 | .rst30 | .rst38 => true
  | .ldSpD16 _ | .ldSpHl | .incSp | .decSp | .addSpE8 _ => true
  | _ => false

/-- The flags an instruction with these bytes may write, from the table of 10_state.md rule R30. -/
def writtenFlags (bytes : List Byte) : List Flag :=
  let o := bytes.headD 0
  match fieldX o, fieldZ o, fieldY o with
  | 2, _, _ => [.z, .n, .h, .c]
  | 0, 1, _ => if fieldQ o = 1 then [.n, .h, .c] else []
  | 0, 4, _ => [.z, .n, .h]
  | 0, 5, _ => [.z, .n, .h]
  | 0, 7, 4 => [.z, .h, .c]
  | 0, 7, 5 => [.n, .h]
  | 0, 7, 6 => [.n, .h, .c]
  | 0, 7, 7 => [.n, .h, .c]
  | 0, 7, _ => [.z, .n, .h, .c]
  | 3, 0, 5 => [.z, .n, .h, .c]
  | 3, 0, 7 => [.z, .n, .h, .c]
  | 3, 1, 6 => [.z, .n, .h, .c]
  | 3, 3, 1 =>
    match fieldX (bytes.getD 1 0) with
    | 0 => [.z, .n, .h, .c]
    | 1 => [.z, .n, .h]
    | _ => []
  | 3, 6, _ => [.z, .n, .h, .c]
  | _, _, _ => []

/-- The two addresses a push stores to (43_load_store.md rule R203). -/
def pushedAt (s : State) : List Word := [s.sp - 1, s.sp - 2]

/-- The addresses an instruction stores a byte to, before translation, computed in the state it starts from: the
stores of 43_load_store.md, the pushes, and the read-modify-write forms of 20_memory.md rule R55. -/
def storedAt (s : State) : Instr → List Word
  | .ldIndBcA => [s.effAddr .indBc]
  | .ldIndDeA => [s.effAddr .indDe]
  | .ldHliA => [s.effAddr .hlInc]
  | .ldHldA => [s.effAddr .hlDec]
  | .ldhIndA8A n => [s.effAddr (.zeroPage n)]
  | .ldIndCA => [s.effAddr .zeroPageC]
  | .ldIndA16A nn => [s.effAddr (.abs nn)]
  | .ldIndA16Sp nn => [nn, nn + 1]
  | .pushBc | .pushDe | .pushHl | .pushAf | .callA16 _ => pushedAt s
  | .rst00 | .rst08 | .rst10 | .rst18 | .rst20 | .rst28 | .rst30 | .rst38 => pushedAt s
  | .callNzA16 _ => if s.holds .nz then pushedAt s else []
  | .callZA16 _ => if s.holds .z then pushedAt s else []
  | .callNcA16 _ => if s.holds .nc then pushedAt s else []
  | .callCA16 _ => if s.holds .c then pushedAt s else []
  | .ldIndHlB | .ldIndHlC | .ldIndHlD | .ldIndHlE | .ldIndHlH | .ldIndHlL | .ldIndHlA | .ldIndHlD8 _ => [s.hl]
  | .incIndHl | .decIndHl => [s.hl]
  | .rlcIndHl | .rrcIndHl | .rlIndHl | .rrIndHl | .slaIndHl | .sraIndHl | .swapIndHl | .srlIndHl => [s.hl]
  | .res0IndHl | .res1IndHl | .res2IndHl | .res3IndHl | .res4IndHl | .res5IndHl | .res6IndHl | .res7IndHl => [s.hl]
  | .set0IndHl | .set1IndHl | .set2IndHl | .set3IndHl | .set4IndHl | .set5IndHl | .set6IndHl | .set7IndHl => [s.hl]
  | .prefixCb cbop => if fieldX cbop ≠ 1 ∧ operandOf (fieldZ cbop) = .indHl then [s.hl] else []
  | _ => []

/-! ### Bytes and states the statements write out -/

/-- The bytes of `ALU[y] A,src` (40_arith_logic.md rules R106 to R129). -/
def aluBytes (op : AluOp) : Src8 → List Byte
  | .reg r => [BitVec.ofNat 8 (0x80 + 8 * op.code + r.code)]
  | .indHl => [BitVec.ofNat 8 (0x86 + 8 * op.code)]
  | .imm n => [BitVec.ofNat 8 (0xC6 + 8 * op.code), n]

/-- The bytes of a prefixed instruction with the fields x and y and an operand (42_bit_rotate_shift.md rule R150). -/
def cbBytes (x y : Nat) (k : Operand8) : List Byte := [0xCB, BitVec.ofNat 8 (64 * x + 8 * y + k.code)]

/-- A prefixed shift's end: the result in the operand, Z from it, N and H clear, C the bit shifted out (R151). -/
def afterShift (s : State) (k : Operand8) (res : Byte) (out : Bool) : State :=
  { s.set8 k res with f := flagByte (res == 0) false false out, pc := s.pc + 2 }

/-- The state with `v` pushed: the high byte at SP-1, the low byte at SP-2 (43_load_store.md rule R203). -/
def pushed (s : State) (v : Word) : State :=
  { (s.write (s.sp - 1) (hiByte v)).write (s.sp - 2) (loByte v) with sp := s.sp - 2 }

/-- The word on top of the stack (43_load_store.md rule R204). -/
def stackTop (s : State) : Word := wordOf (s.read (s.sp + 1)) (s.read s.sp)

/-- Two states that no access tells apart: equal but for the cells behind the echo range (20_memory.md rule R52). -/
def agreeOutsideHidden (s u : State) : Prop :=
  u = { s with mem := u.mem } ∧ ∀ a, hiddenCell a = false → u.mem.cell a = s.mem.cell a

/-- A number below 100 in binary-coded decimal. -/
def bcd (n : Nat) : Byte := BitVec.ofNat 8 (n / 10 * 16 + n % 10)

/-- The bytes of the instruction at pc, as the encoder lays them out, are in memory (20_memory.md rule R56). -/
def placedAt (s : State) (a : Word) : List Byte → Bool
  | [] => true
  | v :: vs => s.read a == v && placedAt s (a + 1) vs

/-- Where a step may leave pc besides `next(n)`: the explicit target of a control-flow instruction (10_state.md rule
R26), none for every other instruction. -/
def jumpTarget (s : State) : Instr → Option Word
  | .jpA16 nn | .jpNzA16 nn | .jpZA16 nn | .jpNcA16 nn | .jpCA16 nn => some nn
  | .callA16 nn | .callNzA16 nn | .callZA16 nn | .callNcA16 nn | .callCA16 nn => some nn
  | .jpHl => some s.hl
  | .jrE8 e | .jrNzE8 e | .jrZE8 e | .jrNcE8 e | .jrCE8 e => some (s.pc + 2 + e.signExtend 16)
  | .ret | .retNz | .retZ | .retNc | .retC | .reti => some (stackTop s)
  | .rst00 => some 0x00 | .rst08 => some 0x08 | .rst10 => some 0x10 | .rst18 => some 0x18
  | .rst20 => some 0x20 | .rst28 => some 0x28 | .rst30 => some 0x30 | .rst38 => some 0x38
  | _ => none

/-- Whether the jump is always taken, so that `next(n)` is no outcome. -/
def alwaysJumps : Instr → Bool
  | .jpA16 _ | .callA16 _ | .jpHl | .jrE8 _ | .ret | .reti => true
  | .rst00 | .rst08 | .rst10 | .rst18 | .rst20 | .rst28 | .rst30 | .rst38 => true
  | _ => false

end Sys2Proof.Machine
end

