-- ==== Sys2Proof/Certificates/Slice0/Obligations.lean ====
section
/-! DEFINITION. The statements for the provers. A result is written in the arithmetic of bit vectors where the
meanings compute exactly in numbers and truncate; an equation `exec i s = .next t` with `t` a record over `s` says the
result, the completion and the frame at once. -/

open Sys2Proof Sys2Proof.Machine

/-! ### Arithmetic and logic (40_arith_logic.md) -/

/-- ADD and ADC for every source (R101, R106 to R111). -/
def Obligations.AddAndAdcResultFlagsFrame : Prop :=
  ∀ (withCarry : Bool) (src : Src8) (s : State),
    let op : AluOp := if withCarry then .adc else .add
    let cin := withCarry && s.flag .c
    let y := s.getSrc src
    let res := s.a + y + (if cin then 1 else 0)
    encode (.ofAlu op src) = aluBytes op src ∧
    exec (.ofAlu op src) s = .next { s with
      a := res
      f := flagByte (res == 0) false
        (decide (s.a.toNat % 16 + y.toNat % 16 + cin.toNat > 15)) (decide (s.a.toNat + y.toNat + cin.toNat > 255))
      pc := s.pc + BitVec.ofNat 16 (srcWidth src) }

/-- SUB and SBC for every source, `SBC A,A` among them (R102, R112 to R117). -/
def Obligations.SubAndSbcResultFlagsFrame : Prop :=
  ∀ (withCarry : Bool) (src : Src8) (s : State),
    let op : AluOp := if withCarry then .sbc else .sub
    let cin := withCarry && s.flag .c
    let y := s.getSrc src
    let res := s.a - y - (if cin then 1 else 0)
    encode (.ofAlu op src) = aluBytes op src ∧
    exec (.ofAlu op src) s = .next { s with
      a := res
      f := flagByte (res == 0) true
        (decide (s.a.toNat % 16 < y.toNat % 16 + cin.toNat)) (decide (s.a.toNat < y.toNat + cin.toNat))
      pc := s.pc + BitVec.ofNat 16 (srcWidth src) }

/-- AND, XOR and OR for every source (R103 to R105, R118 to R126). -/
def Obligations.AndXorOrResultFlagsFrame : Prop :=
  ∀ (src : Src8) (s : State),
    let y := s.getSrc src
    let next := s.pc + BitVec.ofNat 16 (srcWidth src)
    encode (.ofAlu .and src) = aluBytes .and src ∧ encode (.ofAlu .xor src) = aluBytes .xor src ∧
    encode (.ofAlu .or src) = aluBytes .or src ∧
    exec (.ofAlu .and src) s =
      .next { s with a := s.a &&& y, f := flagByte ((s.a &&& y) == 0) false true false, pc := next } ∧
    exec (.ofAlu .xor src) s =
      .next { s with a := s.a ^^^ y, f := flagByte ((s.a ^^^ y) == 0) false false false, pc := next } ∧
    exec (.ofAlu .or src) s =
      .next { s with a := s.a ||| y, f := flagByte ((s.a ||| y) == 0) false false false, pc := next }

/-- CP for every source: the flags of a subtraction and nothing else (R127 to R129). -/
def Obligations.CpWritesOnlyFlags : Prop :=
  ∀ (src : Src8) (s : State),
    let y := s.getSrc src
    encode (.ofAlu .cp src) = aluBytes .cp src ∧
    exec (.ofAlu .cp src) s = .next { s with
      f := flagByte (s.a == y) true (decide (s.a.toNat % 16 < y.toNat % 16)) (decide (s.a.toNat < y.toNat))
      pc := s.pc + BitVec.ofNat 16 (srcWidth src) }

/-- ADD HL,rr (R131). -/
def Obligations.AddHlPairResultFlagsFrame : Prop :=
  ∀ (p : Pair) (s : State),
    let y := s.getPair p
    let res := s.hl + y
    encode (.ofAddHl p) = [BitVec.ofNat 8 (0x09 + 16 * p.code)] ∧
    exec (.ofAddHl p) s = .next { s with
      h := hiByte res
      l := loByte res
      f := flagByte (s.flag .z) false
        (decide (s.hl.toNat % 4096 + y.toNat % 4096 > 0x0FFF)) (decide (s.hl.toNat + y.toNat > 0xFFFF))
      pc := s.pc + 1 }

/-- ADD SP,e8 and LD HL,SP+e8 (R130, R132, R202). -/
def Obligations.SpPlusOffsetResultFlagsFrame : Prop :=
  ∀ (e : Byte) (s : State),
    let res := s.sp + e.signExtend 16
    let fl := flagByte false false
      (decide (s.sp.toNat % 16 + e.toNat % 16 > 15)) (decide (s.sp.toNat % 256 + e.toNat > 255))
    encode (.addSpE8 e) = [0xE8, e] ∧ encode (.ldHlSpE8 e) = [0xF8, e] ∧
    exec (.addSpE8 e) s = .next { s with sp := res, f := fl, pc := s.pc + 2 } ∧
    exec (.ldHlSpE8 e) s = .next { s with h := hiByte res, l := loByte res, f := fl, pc := s.pc + 2 }

/-! ### INC and DEC (41_inc_dec.md) -/

/-- INC and DEC of a register or the byte at HL: C is kept (R140 to R143). -/
def Obligations.IncDecByteResultFlagsFrame : Prop :=
  ∀ (k : Operand8) (s : State),
    let v := s.get8 k
    encode (.ofInc8 k) = [BitVec.ofNat 8 (0x04 + 8 * k.code)] ∧
    encode (.ofDec8 k) = [BitVec.ofNat 8 (0x05 + 8 * k.code)] ∧
    exec (.ofInc8 k) s = .next { s.set8 k (v + 1) with
      f := flagByte (v + 1 == 0) false ((v &&& 0x0F) == 0x0F) (s.flag .c), pc := s.pc + 1 } ∧
    exec (.ofDec8 k) s = .next { s.set8 k (v - 1) with
      f := flagByte (v - 1 == 0) true ((v &&& 0x0F) == 0x00) (s.flag .c), pc := s.pc + 1 }

/-- INC and DEC of a pair or SP: no flag is written (R144 and R145). -/
def Obligations.IncDecPairResultFrame : Prop :=
  ∀ (p : Pair) (s : State),
    encode (.ofInc16 p) = [BitVec.ofNat 8 (0x03 + 16 * p.code)] ∧
    encode (.ofDec16 p) = [BitVec.ofNat 8 (0x0B + 16 * p.code)] ∧
    exec (.ofInc16 p) s = .next { s.setPair p (s.getPair p + 1) with pc := s.pc + 1 } ∧
    exec (.ofDec16 p) s = .next { s.setPair p (s.getPair p - 1) with pc := s.pc + 1 }

/-- INC then DEC, and DEC then INC, give the value back; Z, N and H are then those of the second instruction and C is
as it was, and the pair forms leave F alone (R146). -/
def Obligations.IncDecRing : Prop :=
  (∀ (k : Operand8) (s : State),
    let v := s.get8 k
    (∃ t u, exec (.ofInc8 k) s = .next t ∧ exec (.ofDec8 k) t = .next u ∧ u.get8 k = v ∧
      u.f = flagByte (v == 0) true ((v + 1) &&& 0x0F == 0x00) (s.flag .c)) ∧
    (∃ t u, exec (.ofDec8 k) s = .next t ∧ exec (.ofInc8 k) t = .next u ∧ u.get8 k = v ∧
      u.f = flagByte (v == 0) false ((v - 1) &&& 0x0F == 0x0F) (s.flag .c))) ∧
  (∀ (p : Pair) (s : State),
    (∃ t u, exec (.ofInc16 p) s = .next t ∧ exec (.ofDec16 p) t = .next u ∧ u.getPair p = s.getPair p ∧ u.f = s.f) ∧
    (∃ t u, exec (.ofDec16 p) s = .next t ∧ exec (.ofInc16 p) t = .next u ∧ u.getPair p = s.getPair p ∧ u.f = s.f))

/-! ### Rotates, shifts and bits (42_bit_rotate_shift.md) -/

/-- RLC, RRC, RL and RR of a register or the byte at HL (R152 to R159). -/
def Obligations.PrefixedRotatesResultFlagsFrame : Prop :=
  ∀ (k : Operand8) (s : State),
    let v := s.get8 k
    let cin : Byte := if s.flag .c then 1 else 0
    encode (.ofShift .rlc k) = cbBytes 0 0 k ∧ encode (.ofShift .rrc k) = cbBytes 0 1 k ∧
    encode (.ofShift .rl k) = cbBytes 0 2 k ∧ encode (.ofShift .rr k) = cbBytes 0 3 k ∧
    exec (.ofShift .rlc k) s = .next (afterShift s k (v.rotateLeft 1) (v.getLsbD 7)) ∧
    exec (.ofShift .rrc k) s = .next (afterShift s k (v.rotateRight 1) (v.getLsbD 0)) ∧
    exec (.ofShift .rl k) s = .next (afterShift s k (v + v + cin) (v.getLsbD 7)) ∧
    exec (.ofShift .rr k) s = .next (afterShift s k ((v >>> 1) + (cin <<< 7)) (v.getLsbD 0))

/-- SLA, SRA, SWAP and SRL of a register or the byte at HL (R160 to R167). -/
def Obligations.PrefixedShiftsResultFlagsFrame : Prop :=
  ∀ (k : Operand8) (s : State),
    let v := s.get8 k
    encode (.ofShift .sla k) = cbBytes 0 4 k ∧ encode (.ofShift .sra k) = cbBytes 0 5 k ∧
    encode (.ofShift .swap k) = cbBytes 0 6 k ∧ encode (.ofShift .srl k) = cbBytes 0 7 k ∧
    exec (.ofShift .sla k) s = .next (afterShift s k (v + v) (v.getLsbD 7)) ∧
    exec (.ofShift .sra k) s = .next (afterShift s k (v.sshiftRight 1) (v.getLsbD 0)) ∧
    exec (.ofShift .swap k) s = .next (afterShift s k (v.rotateLeft 4) false) ∧
    exec (.ofShift .srl k) s = .next (afterShift s k (v >>> 1) (v.getLsbD 0))

/-- RLCA, RRCA, RLA and RRA clear Z whatever the result (R174 to R177). -/
def Obligations.AccumulatorRotatesClearZ : Prop :=
  ∀ (s : State),
    let cin : Byte := if s.flag .c then 1 else 0
    let out7 := flagByte false false false (s.a.getLsbD 7)
    let out0 := flagByte false false false (s.a.getLsbD 0)
    encode .rlca = [0x07] ∧ encode .rrca = [0x0F] ∧ encode .rla = [0x17] ∧ encode .rra = [0x1F] ∧
    exec .rlca s = .next { s with a := s.a.rotateLeft 1, f := out7, pc := s.pc + 1 } ∧
    exec .rrca s = .next { s with a := s.a.rotateRight 1, f := out0, pc := s.pc + 1 } ∧
    exec .rla s = .next { s with a := s.a + s.a + cin, f := out7, pc := s.pc + 1 } ∧
    exec .rra s = .next { s with a := (s.a >>> 1) + (cin <<< 7), f := out0, pc := s.pc + 1 }

/-- BIT b of a register or the byte at HL writes only Z, N and H (R168 and R169). -/
def Obligations.BitTestsWithoutWriting : Prop :=
  ∀ (b : Fin 8) (k : Operand8) (s : State),
    encode (.ofBit b k) = cbBytes 1 b.val k ∧
    exec (.ofBit b k) s = .next { s with
      f := flagByte (!(s.get8 k).getLsbD b) false true (s.flag .c), pc := s.pc + 2 }

/-- RES b and SET b change one bit of a register or of the byte at HL, and no flag (R170 to R173). -/
def Obligations.ResAndSetChangeOneBit : Prop :=
  ∀ (b : Fin 8) (k : Operand8) (s : State),
    encode (.ofRes b k) = cbBytes 2 b.val k ∧ encode (.ofSet b k) = cbBytes 3 b.val k ∧
    ∃ r1 r2 : Byte,
      exec (.ofRes b k) s = .next { s.set8 k r1 with pc := s.pc + 2 } ∧
      exec (.ofSet b k) s = .next { s.set8 k r2 with pc := s.pc + 2 } ∧
      (∀ i : Nat, r1.getLsbD i = ((s.get8 k).getLsbD i && i != b.val)) ∧
      (∀ i : Nat, r2.getLsbD i = ((s.get8 k).getLsbD i || i == b.val))

/-! ### Loads, stores and the stack (43_load_store.md) -/

/-- LD r,r', LD r,(HL) and LD r,d8 (R180, R181, R183): only r and pc change. -/
def Obligations.LoadRegisterFromEverySource : Prop :=
  ∀ (r : Reg8) (s : State),
    (∀ q, encode (.ofLdReg r (.reg q)) = [BitVec.ofNat 8 (0x40 + 8 * r.code + q.code)] ∧
      exec (.ofLdReg r (.reg q)) s = .next { s.setReg r (s.getReg q) with pc := s.pc + 1 }) ∧
    encode (.ofLdReg r .indHl) = [BitVec.ofNat 8 (0x46 + 8 * r.code)] ∧
    exec (.ofLdReg r .indHl) s = .next { s.setReg r (s.read s.hl) with pc := s.pc + 1 } ∧
    (∀ n, encode (.ofLdReg r (.imm n)) = [BitVec.ofNat 8 (0x06 + 8 * r.code), n] ∧
      exec (.ofLdReg r (.imm n)) s = .next { s.setReg r n with pc := s.pc + 2 })

/-- LD (HL),r and LD (HL),d8 (R182 and R184): only the byte at HL and pc change. -/
def Obligations.StoreAtHl : Prop :=
  (∀ (r : Reg8) (s : State),
    encode (.ofLdIndHl r) = [BitVec.ofNat 8 (0x70 + r.code)] ∧
    exec (.ofLdIndHl r) s = .next { s.write s.hl (s.getReg r) with pc := s.pc + 1 }) ∧
  (∀ (n : Byte) (s : State),
    encode (.ldIndHlD8 n) = [0x36, n] ∧
    exec (.ldIndHlD8 n) s = .next { s.write s.hl n with pc := s.pc + 2 })

/-- LD rr,d16 and LD SP,HL (R185 and R201). -/
def Obligations.LoadPairAndSp : Prop :=
  (∀ (p : Pair) (nn : Word) (s : State),
    encode (.ofLdPair p nn) = [BitVec.ofNat 8 (0x01 + 16 * p.code), loByte nn, hiByte nn] ∧
    exec (.ofLdPair p nn) s = .next { s.setPair p nn with pc := s.pc + 3 }) ∧
  (∀ s : State, encode .ldSpHl = [0xF9] ∧ exec .ldSpHl s = .next { s with sp := s.hl, pc := s.pc + 1 })

/-- The loads of A through BC, DE, HL+, HL-, the zero page and an absolute address (R188, R189, R192, R193, R195,
R197, R199): HL+ and HL- move HL after the access, and memory is as before. -/
def Obligations.LoadAccumulatorEveryMode : Prop :=
  ∀ (s : State) (n : Byte) (nn : Word),
    (encode .ldAIndBc = [0x0A] ∧ encode .ldAIndDe = [0x1A] ∧ encode .ldAHli = [0x2A] ∧ encode .ldAHld = [0x3A] ∧
      encode (.ldhAIndA8 n) = [0xF0, n] ∧ encode .ldAIndC = [0xF2] ∧
      encode (.ldAIndA16 nn) = [0xFA, loByte nn, hiByte nn]) ∧
    exec .ldAIndBc s = .next { s with a := s.read s.bc, pc := s.pc + 1 } ∧
    exec .ldAIndDe s = .next { s with a := s.read s.de, pc := s.pc + 1 } ∧
    exec .ldAHli s = .next
      { s with a := s.read s.hl, h := hiByte (s.hl + 1), l := loByte (s.hl + 1), pc := s.pc + 1 } ∧
    exec .ldAHld s = .next
      { s with a := s.read s.hl, h := hiByte (s.hl - 1), l := loByte (s.hl - 1), pc := s.pc + 1 } ∧
    exec (.ldhAIndA8 n) s = .next { s with a := s.read (wordOf 0xFF n), pc := s.pc + 2 } ∧
    exec .ldAIndC s = .next { s with a := s.read (wordOf 0xFF s.c), pc := s.pc + 1 } ∧
    exec (.ldAIndA16 nn) s = .next { s with a := s.read nn, pc := s.pc + 3 }

/-- The stores of A through the same modes (R186, R187, R190, R191, R194, R196, R198): one byte of memory changes,
HL moves in the HL+ and HL- forms, no other register but pc does. -/
def Obligations.StoreAccumulatorEveryMode : Prop :=
  ∀ (s : State) (n : Byte) (nn : Word),
    (encode .ldIndBcA = [0x02] ∧ encode .ldIndDeA = [0x12] ∧ encode .ldHliA = [0x22] ∧ encode .ldHldA = [0x32] ∧
      encode (.ldhIndA8A n) = [0xE0, n] ∧ encode .ldIndCA = [0xE2] ∧
      encode (.ldIndA16A nn) = [0xEA, loByte nn, hiByte nn]) ∧
    exec .ldIndBcA s = .next { s.write s.bc s.a with pc := s.pc + 1 } ∧
    exec .ldIndDeA s = .next { s.write s.de s.a with pc := s.pc + 1 } ∧
    exec .ldHliA s = .next
      { s.write s.hl s.a with h := hiByte (s.hl + 1), l := loByte (s.hl + 1), pc := s.pc + 1 } ∧
    exec .ldHldA s = .next
      { s.write s.hl s.a with h := hiByte (s.hl - 1), l := loByte (s.hl - 1), pc := s.pc + 1 } ∧
    exec (.ldhIndA8A n) s = .next { s.write (wordOf 0xFF n) s.a with pc := s.pc + 2 } ∧
    exec .ldIndCA s = .next { s.write (wordOf 0xFF s.c) s.a with pc := s.pc + 1 } ∧
    exec (.ldIndA16A nn) s = .next { s.write nn s.a with pc := s.pc + 3 }

/-- LD (a16),SP: low byte at a16, high byte at the next address, each translated on its own (R200 and R56). -/
def Obligations.StoreSpLittleEndian : Prop :=
  ∀ (nn : Word) (s : State),
    encode (.ldIndA16Sp nn) = [0x08, loByte nn, hiByte nn] ∧
    ∃ t, exec (.ldIndA16Sp nn) s = .next t ∧
      t = { (s.write nn (loByte s.sp)).write (nn + 1) (hiByte s.sp) with pc := s.pc + 3 } ∧
      t.read nn = loByte s.sp ∧ t.read (nn + 1) = hiByte s.sp ∧
      ∀ b, echoTranslate b ≠ echoTranslate nn → echoTranslate b ≠ echoTranslate (nn + 1) → t.read b = s.read b

/-- PUSH rr (R203 and R205): SP moves down by 2, the low byte is at the new SP, the high byte above it. -/
def Obligations.PushStoresPairBelowSp : Prop :=
  ∀ (p : StackPair) (s : State),
    let v := s.getStackPair p
    encode (.ofPush p) = [BitVec.ofNat 8 (0xC5 + 16 * p.code)] ∧
    ∃ t, exec (.ofPush p) s = .next t ∧ t = { pushed s v with pc := s.pc + 1 } ∧
      t.read t.sp = loByte v ∧ t.read (t.sp + 1) = hiByte v ∧
      ∀ b, echoTranslate b ≠ echoTranslate (s.sp - 1) → echoTranslate b ≠ echoTranslate (s.sp - 2) → t.read b = s.read b

/-- POP rr for BC, DE and HL, and POP AF, which loads the four flags and keeps F's low bits zero (R204, R206, R207). -/
def Obligations.PopLoadsPairAndMasksF : Prop :=
  ∀ (s : State),
    let lo := s.read s.sp
    let hi := s.read (s.sp + 1)
    (∀ p : StackPair, encode (.ofPop p) = [BitVec.ofNat 8 (0xC1 + 16 * p.code)]) ∧
    exec .popBc s = .next { s with b := hi, c := lo, sp := s.sp + 2, pc := s.pc + 1 } ∧
    exec .popDe s = .next { s with d := hi, e := lo, sp := s.sp + 2, pc := s.pc + 1 } ∧
    exec .popHl s = .next { s with h := hi, l := lo, sp := s.sp + 2, pc := s.pc + 1 } ∧
    exec .popAf s = .next { s with a := hi, f := lo &&& 0xF0, sp := s.sp + 2, pc := s.pc + 1 }

/-- A pushed pair pops back, with SP restored, at every SP; for AF because F's low bits are zero (R204, R207). -/
def Obligations.PushThenPopRestores : Prop :=
  ∀ (p : StackPair) (s : State), (p = .af → s.f &&& 0x0F = 0) →
    ∃ t u, exec (.ofPush p) s = .next t ∧ exec (.ofPop p) t = .next u ∧
      u = { s with mem := t.mem, pc := s.pc + 2 }

/-! ### Control flow (44_control_flow.md) -/

/-- JP a16, JP cc,a16 and JP HL, with what each condition reads (R220 to R222, 00_scope.md rule R13). -/
def Obligations.AbsoluteJumps : Prop :=
  ∀ (cc : Cond) (nn : Word) (s : State),
    (s.holds .nz = !s.f.getLsbD 7) ∧ (s.holds .z = s.f.getLsbD 7) ∧
    (s.holds .nc = !s.f.getLsbD 4) ∧ (s.holds .c = s.f.getLsbD 4) ∧
    encode (.jpA16 nn) = [0xC3, loByte nn, hiByte nn] ∧ encode .jpHl = [0xE9] ∧
    encode (.ofJpCond cc nn) = [BitVec.ofNat 8 (0xC2 + 8 * cc.code), loByte nn, hiByte nn] ∧
    exec (.jpA16 nn) s = .next { s with pc := nn } ∧
    exec .jpHl s = .next { s with pc := s.hl } ∧
    exec (.ofJpCond cc nn) s = .next { s with pc := if s.holds cc then nn else s.pc + 3 }

/-- JR e8 and JR cc,e8: the displacement counts from the next instruction (R223 and R224). -/
def Obligations.RelativeJumps : Prop :=
  ∀ (cc : Cond) (e : Byte) (s : State),
    encode (.jrE8 e) = [0x18, e] ∧ encode (.ofJrCond cc e) = [BitVec.ofNat 8 (0x20 + 8 * cc.code), e] ∧
    exec (.jrE8 e) s = .next { s with pc := s.pc + 2 + e.signExtend 16 } ∧
    exec (.ofJrCond cc e) s =
      .next { s with pc := if s.holds cc then s.pc + 2 + e.signExtend 16 else s.pc + 2 }

/-- CALL a16 and CALL cc,a16: push pc0 + 3 and jump, or only pass (R225 and R226). -/
def Obligations.CallsPushReturnAddress : Prop :=
  ∀ (cc : Cond) (nn : Word) (s : State),
    encode (.callA16 nn) = [0xCD, loByte nn, hiByte nn] ∧
    encode (.ofCallCond cc nn) = [BitVec.ofNat 8 (0xC4 + 8 * cc.code), loByte nn, hiByte nn] ∧
    exec (.callA16 nn) s = .next { pushed s (s.pc + 3) with pc := nn } ∧
    exec (.ofCallCond cc nn) s =
      .next (if s.holds cc then { pushed s (s.pc + 3) with pc := nn } else { s with pc := s.pc + 3 })

/-- RET, RET cc and RETI; RETI also sets IME and restores nothing else (R227 to R229, 60_exceptions.md rule R276). -/
def Obligations.ReturnsPopPc : Prop :=
  ∀ (cc : Cond) (s : State),
    encode .ret = [0xC9] ∧ encode .reti = [0xD9] ∧
    encode (.ofRetCond cc) = [BitVec.ofNat 8 (0xC0 + 8 * cc.code)] ∧
    exec .ret s = .next { s with sp := s.sp + 2, pc := stackTop s } ∧
    exec .reti s = .next { s with sp := s.sp + 2, pc := stackTop s, ime := true } ∧
    exec (.ofRetCond cc) s =
      .next (if s.holds cc then { s with sp := s.sp + 2, pc := stackTop s } else { s with pc := s.pc + 1 })

/-- RST: push pc0 + 1 and jump to 8 * y (R230). -/
def Obligations.RestartsCallFixedAddress : Prop :=
  ∀ (y : Fin 8) (s : State),
    encode (.ofRst y) = [BitVec.ofNat 8 (0xC7 + 8 * y.val)] ∧
    exec (.ofRst y) s = .next { pushed s (s.pc + 1) with pc := BitVec.ofNat 16 (8 * y.val) }

/-- A call followed by a return comes back behind the call with SP as it was (R225 and R227). -/
def Obligations.CallThenReturnComesBack : Prop :=
  ∀ (nn : Word) (s : State),
    ∃ t u, exec (.callA16 nn) s = .next t ∧ exec .ret t = .next u ∧ u = { s with mem := t.mem, pc := s.pc + 3 }

/-! ### Flags and the rest (45_flag_misc.md) -/

/-- NOP, HALT and STOP change only pc, STOP by STOP_LENGTH (R250 to R252). -/
def Obligations.NopHaltStopOnlyAdvance : Prop :=
  ∀ (n : Byte) (s : State),
    encode .nop = [0x00] ∧ encode .halt = [0x76] ∧ encode (.stop n) = [0x10, n] ∧
    exec .nop s = .next { s with pc := s.pc + 1 } ∧
    exec .halt s = .next { s with pc := s.pc + 1 } ∧
    (s.cfg.stopLength = .two → exec (.stop n) s = .next { s with pc := s.pc + 2 }) ∧
    (s.cfg.stopLength = .one → exec (.stop n) s = .next { s with pc := s.pc + 1 })

/-- DI clears IME and EI sets it at once (R253 and R254). -/
def Obligations.DiAndEiWriteIme : Prop :=
  ∀ (s : State),
    encode .di = [0xF3] ∧ encode .ei = [0xFB] ∧
    exec .di s = .next { s with ime := false, pc := s.pc + 1 } ∧
    exec .ei s = .next { s with ime := true, pc := s.pc + 1 }

/-- DAA: the correction 0x06, 0x60, both or none, added after an addition and subtracted after a subtraction (R255). -/
def Obligations.DaaCorrection : Prop :=
  ∀ (s : State),
    let n := s.flag .n
    let high := s.flag .c || (!n && decide (s.a.toNat > 0x99))
    let low := s.flag .h || (!n && decide (s.a.toNat % 16 > 9))
    let fix : Byte := (if high then 0x60 else 0) + (if low then 0x06 else 0)
    let res := if n then s.a - fix else s.a + fix
    encode .daa = [0x27] ∧
    exec .daa s = .next { s with a := res, f := flagByte (res == 0) n false high, pc := s.pc + 1 }

/-- DAA after ADD, ADC, SUB or SBC of two decimal bytes, from every source that holds the second one, gives the
decimal result, and C its carry (R255). -/
def Obligations.DaaGivesDecimalArithmetic : Prop :=
  ∀ (withCarry : Bool) (src : Src8) (x y : Nat) (s : State),
    x < 100 → y < 100 → s.a = bcd x → s.getSrc src = bcd y →
    let cin := (withCarry && s.flag .c).toNat
    (∃ t u, exec (.ofAlu (if withCarry then .adc else .add) src) s = .next t ∧ exec .daa t = .next u ∧
      u.a = bcd ((x + y + cin) % 100) ∧ u.flag .c = decide (100 ≤ x + y + cin)) ∧
    (∃ t u, exec (.ofAlu (if withCarry then .sbc else .sub) src) s = .next t ∧ exec .daa t = .next u ∧
      u.a = bcd ((x + 100 - y + 100 - cin) % 100) ∧ u.flag .c = decide (x < y + cin))

/-- CPL, SCF and CCF (R256 to R258). -/
def Obligations.CplScfCcf : Prop :=
  ∀ (s : State),
    encode .cpl = [0x2F] ∧ encode .scf = [0x37] ∧ encode .ccf = [0x3F] ∧
    exec .cpl s = .next { s with a := ~~~s.a, f := flagByte (s.flag .z) true true (s.flag .c), pc := s.pc + 1 } ∧
    exec .scf s = .next { s with f := flagByte (s.flag .z) false false true, pc := s.pc + 1 } ∧
    exec .ccf s = .next { s with f := flagByte (s.flag .z) false false (!s.flag .c), pc := s.pc + 1 }

/-! ### The prefix and the illegal bytes (30_encoding.md, 60_exceptions.md) -/

/-- The prefix runs the rule of its second byte in the secondary map, as one instruction that completes (R85, R89). -/
def Obligations.PrefixRunsSecondaryMap : Prop :=
  ∀ (cbop : Byte) (s : State),
    (decodeSecondary cbop).wf = true ∧ encode (decodeSecondary cbop) = [0xCB, cbop] ∧
    ∃ t, exec (.prefixCb cbop) s = .next t ∧ exec (decodeSecondary cbop) s = .next t ∧ t.pc = s.pc + 2

/-- The eleven illegal bytes raise IllegalOpcode, cause 1, with the byte and its address, whether as an instruction or
as the byte at pc; a fault holds no new state, so nothing is written. No byte of the secondary map is one (R86). -/
def Obligations.IllegalBytesFault : Prop :=
  ∀ (op : Byte) (s : State),
    (op ∈ ([0xD3, 0xDB, 0xDD, 0xE3, 0xE4, 0xEB, 0xEC, 0xED, 0xF4, 0xFC, 0xFD] : List Byte) →
      exec (.illegal op) s = .fault (.illegalOpcode op s.pc) ∧
      (s.read s.pc = op → step s = .fault (.illegalOpcode op s.pc))) ∧
    (Fault.illegalOpcode op s.pc).cause = 1 ∧
    ∀ cbop : Byte, decodeSecondary cbop ≠ .illegal op

/-- A step completes, or faults with IllegalOpcode exactly when the byte at pc is one of the eleven; it refuses
nothing and never raises DesignatorFault (30_encoding.md rule R90). -/
def Obligations.StepFaultsExactlyOnIllegalBytes : Prop :=
  ∀ (s : State),
    (illegalBytes.contains (s.read s.pc) = true ∧ step s = .fault (.illegalOpcode (s.read s.pc) s.pc)) ∨
    (illegalBytes.contains (s.read s.pc) = false ∧ ∃ t, step s = .next t)

/-! ### Decoding (30_encoding.md) -/

/-- Words written out from the maps, one or more for each family, decode to their instructions. -/
def Obligations.SampleWordsDecode : Prop :=
  decode [0b10000000] = .ok (.addAB, []) ∧ decode [0b11001110, 0x3B] = .ok (.adcAD8 0x3B, []) ∧
  decode [0b00111001] = .ok (.addHlSp, []) ∧ decode [0b11101000, 0xFF] = .ok (.addSpE8 0xFF, []) ∧
  decode [0b00110100] = .ok (.incIndHl, []) ∧ decode [0b00011011] = .ok (.decDe, []) ∧
  decode [0b11001011, 0b00010001] = .ok (.rlC, []) ∧ decode [0b11001011, 0b01011110] = .ok (.bit3IndHl, []) ∧
  decode [0b00000111] = .ok (.rlca, []) ∧ decode [0b01000001] = .ok (.ldBC, []) ∧
  decode [0b00100001, 0x34, 0x12] = .ok (.ldHlD16 0x1234, []) ∧ decode [0b11100000, 0x44] = .ok (.ldhIndA8A 0x44, []) ∧
  decode [0b11110101] = .ok (.pushAf, []) ∧ decode [0b11001010, 0x00, 0x20] = .ok (.jpZA16 0x2000, []) ∧
  decode [0b00110000, 0x10] = .ok (.jrNcE8 0x10, []) ∧ decode [0b11101111] = .ok (.rst28, []) ∧
  decode [0b01110110] = .ok (.halt, []) ∧ decode [0b11011101] = .ok (.illegal 0xDD, [])

/-- Decoding what the encoder wrote gives the instruction back, whatever bytes follow. -/
def Obligations.DecodeOfEncodeIsIdentity : Prop :=
  ∀ (i : Instr) (rest : List Byte), i.wf = true → decode (encode i ++ rest) = .ok (i, rest)

/-- Every three bytes decode to one well-formed instruction, and encoding it gives back the bytes of its row (R90). -/
def Obligations.EncodeOfDecodeIsIdentity : Prop :=
  ∀ (o b1 b2 : Byte),
    (decodeBytes o b1 b2).wf = true ∧ encode (decodeBytes o b1 b2) = [o, b1, b2].take (tableLength o)

/-- The opcode byte alone gives the length (R83), STOP_LENGTH for STOP. -/
def Obligations.OpcodeByteGivesLength : Prop :=
  ∀ (cfg : Config) (o b1 b2 : Byte),
    (decodeBytes o b1 b2).width cfg = opcodeLength cfg o ∧ 1 ≤ opcodeLength cfg o ∧ opcodeLength cfg o ≤ 3

/-- A step runs the instruction whose bytes stand at pc: whether they are read by the decoder or were laid out by the
encoder (R89). -/
def Obligations.StepRunsInstructionAtPc : Prop :=
  (∀ (s : State) (i : Instr) (rest : List Byte),
    decode (s.readBlock s.pc 3) = .ok (i, rest) → step s = exec i s) ∧
  (∀ (s : State) (i : Instr), i.wf = true → placedAt s s.pc (encode i) = true → step s = exec i s)

/-! ### Whole-machine rules -/

/-- The invariant is kept by every step. -/
def Obligations.StepKeepsStateInvariant : Prop :=
  ∀ (s t : State), s.inv = true → step s = .next t → t.inv = true

/-- The invariant holds after reset and after every launch that is not refused. -/
def Obligations.ResetAndLaunchMeetInvariant : Prop :=
  State.reset.inv = true ∧
  ∀ (cart : Option (List Byte)) (vram : BootVram) (regs : ResetRegs) (sp : Word) (cfg : Config) (t : State),
    launch cart vram regs sp cfg = .next t → t.inv = true

/-- Every instruction leaves pc at `next(n)` or at its explicit target, and an unconditional jump at its target
(10_state.md rule R26). -/
def Obligations.PcIsNextOrTarget : Prop :=
  ∀ (i : Instr) (s t : State), i.wf = true → exec i s = .next t →
    (t.pc = s.pc + BitVec.ofNat 16 (i.width s.cfg) ∨ jumpTarget s i = some t.pc) ∧
    (alwaysJumps i = true → jumpTarget s i = some t.pc)

/-- A flag the table of 10_state.md rule R30 does not list for an instruction is left as it is. -/
def Obligations.FlagsChangeOnlyWhereListed : Prop :=
  ∀ (i : Instr) (s t : State) (g : Flag), exec i s = .next t → g ∉ writtenFlags (encode i) → t.flag g = s.flag g

/-- Only PUSH, POP, calls, returns, RST and the SP forms of LD, INC, DEC and ADD change SP (10_state.md rule R27). -/
def Obligations.SpChangesOnlyWhereListed : Prop :=
  ∀ (i : Instr) (s t : State), exec i s = .next t → writesSp i = false → t.sp = s.sp

/-- Only EI, DI and RETI change IME (10_state.md rule R28), and no instruction changes STOP_LENGTH. -/
def Obligations.ImeChangesOnlyWhereListed : Prop :=
  ∀ (i : Instr) (s t : State), exec i s = .next t → (writesIme i = false → t.ime = s.ime) ∧ t.cfg = s.cfg

/-- IME is read by nothing (10_state.md rule R28): steps that start from states that differ only in IME answer alike,
but for IME itself. -/
def Obligations.ImeIsReadByNothing : Prop :=
  ∀ (s : State) (v : Bool),
    mapNext (fun t => { t with ime := false }) (step { s with ime := v }) =
      mapNext (fun t => { t with ime := false }) (step s)

/-- Every byte of memory outside the addresses an instruction stores to reads as before; an instruction that stores
nothing leaves every byte. -/
def Obligations.MemoryFrameOfEveryInstruction : Prop :=
  ∀ (i : Instr) (s t : State) (b : Word), exec i s = .next t →
    (∀ a ∈ storedAt s i, echoTranslate b ≠ echoTranslate a) → t.read b = s.read b

/-! ### The byte interface (20_memory.md) -/

/-- The echo range reads and writes the bytes at 0xC000 and up, in both directions, and 0xFDFF is a byte of its own
(R52 to R54). A write at any address changes one storage cell, 0x2000 lower for an address from 0xE000 to 0xFDFE, and no
register; it changes what is read at that address, at its one alias where it has one, and nowhere else. -/
def Obligations.EchoAliasesBothWays : Prop :=
  ∀ (s : State) (v : Byte),
    (∀ k : Nat, k < 0x1DFF →
      (s.write (BitVec.ofNat 16 (0xE000 + k)) v).read (BitVec.ofNat 16 (0xC000 + k)) = v ∧
      (s.write (BitVec.ofNat 16 (0xC000 + k)) v).read (BitVec.ofNat 16 (0xE000 + k)) = v) ∧
    (s.write 0xFDFF v).read 0xDDFF = s.read 0xDDFF ∧ (s.write 0xDDFF v).read 0xFDFF = s.read 0xFDFF ∧
    (∀ a : Nat, a < 65536 →
      let cell := if 0xE000 ≤ a ∧ a < 0xFDFF then a - 0x2000 else a
      let t := s.write (BitVec.ofNat 16 a) v
      t = { s with mem := t.mem } ∧ (∀ k : Nat, t.mem.cell k = if k = cell then v else s.mem.cell k) ∧
      s.read (BitVec.ofNat 16 a) = s.mem.cell cell ∧ t.read (BitVec.ofNat 16 a) = v) ∧
    (∀ a b : Nat, a < 65536 → b < 65536 → b ≠ a →
      ¬ (0xC000 ≤ a ∧ a < 0xDDFF ∧ b = a + 0x2000) → ¬ (0xE000 ≤ a ∧ a < 0xFDFF ∧ b = a - 0x2000) →
      (s.write (BitVec.ofNat 16 a) v).read (BitVec.ofNat 16 b) = s.read (BitVec.ofNat 16 b))

/-- The cells behind the echo range are written by no step (R52). -/
def Obligations.HiddenCellsAreNeverWritten : Prop :=
  ∀ (s t : State) (a : Nat), step s = .next t → hiddenCell a = true → t.mem.cell a = s.mem.cell a

/-- The cells behind the echo range are read by no step: states that differ only there step alike (R52). -/
def Obligations.HiddenCellsAreNeverRead : Prop :=
  ∀ (s u : State), agreeOutsideHidden s u →
    (∃ t w, step s = .next t ∧ step u = .next w ∧ agreeOutsideHidden t w) ∨
    (∃ r, step s = .fault r ∧ step u = .fault r)

/-! ### Launch and host (70_reset_and_hazards.md, 60_exceptions.md) -/

/-- After reset: pc at the entry point, SP at its default, IME 0, every memory byte 0x00 (R301, R306 to R309). Reset
is the launch with no cartridge; that the open registers and the collaborator's bytes are zero in it is the model's
choice (notes/assumptions/1.md and 2.md). -/
def Obligations.ResetIsLaunchWithoutCartridge : Prop :=
  State.reset.pc = 0x0100 ∧ State.reset.sp = 0xFFFE ∧ State.reset.ime = false ∧
  (∀ a, State.reset.read a = 0) ∧
  launch none BootVram.zero ResetRegs.zero spResetDefault Config.default = .next State.reset

/-- An image that is too short or does not declare "ROM only" is refused with cause 3, and no step runs then; every
other image is taken, and so is a missing one (R302). -/
def Obligations.LaunchRefusesUnsupportedCartridge : Prop :=
  Refusal.cartridgeRefused.cause = some 3 ∧
  (∀ later : List HostEvent, (Run.ofLaunch (.refused .cartridgeRefused)).events later =
    ⟨.refused .cartridgeRefused, none⟩) ∧
  ∀ (vram : BootVram) (regs : ResetRegs) (sp : Word) (cfg : Config),
    (∃ t, launch none vram regs sp cfg = .next t) ∧
    ∀ image : List Byte,
      (image.length < 0x8000 ∨ image[0x0147]? ≠ some 0x00 →
        launch (some image) vram regs sp cfg = .refused .cartridgeRefused) ∧
      (0x8000 ≤ image.length → image[0x0147]? = some 0x00 →
        ∃ t, launch (some image) vram regs sp cfg = .next t)

/-- The registers at the first step, for every RESET_REGS and SP_RESET, and SP_RESET's default (R305 to R308). -/
def Obligations.LaunchSetsRegisters : Prop :=
  spResetDefault = 0xFFFE ∧
  ∀ (cart : Option (List Byte)) (vram : BootVram) (regs : ResetRegs) (sp : Word) (cfg : Config) (t : State),
    regs.wf = true → launch cart vram regs sp cfg = .next t →
      t.a = regs.a ∧ t.f = regs.f ∧ t.b = regs.b ∧ t.c = regs.c ∧ t.d = regs.d ∧ t.e = regs.e ∧ t.h = regs.h ∧
      t.l = regs.l ∧ t.sp = sp ∧ t.pc = 0x0100 ∧ t.ime = false ∧ t.cfg = cfg

/-- Memory at the first step (R301, R303, R304, R309): the image's first 0x8000 bytes (zero with no image), the boot
collaborator's regions, and zero everywhere else. -/
def Obligations.LaunchFillsMemory : Prop :=
  ∀ (cart : Option (List Byte)) (vram : BootVram) (regs : ResetRegs) (sp : Word) (cfg : Config) (t : State),
    vram.wf = true → launch cart vram regs sp cfg = .next t →
      (∀ k < 0x8000, t.mem.cell k = (cart.getD []).getD k 0) ∧
      (∀ k < 0x1800, t.mem.cell (0x8000 + k) = vram.tiles.getD k 0) ∧
      (∀ k < 12, t.mem.cell (0x9904 + k) = vram.upperRow.getD k 0) ∧
      (∀ k < 12, t.mem.cell (0x9924 + k) = vram.lowerRow.getD k 0) ∧
      (∀ a, 0x9800 ≤ a → ¬ (0x9904 ≤ a ∧ a ≤ 0x990F) → ¬ (0x9924 ≤ a ∧ a ≤ 0x992F) → t.mem.cell a = 0)

/-- A faulting step ends the run with the fault record and the state before the step, whatever the host tries next
(R271 and R284). -/
def Obligations.FaultEndsRunWithStateKept : Prop :=
  ∀ (s : State) (later : List HostEvent), illegalBytes.contains (s.read s.pc) = true →
    (Run.mk .running (some s)).events (.step :: later) =
      ⟨.faulted (.illegalOpcode (s.read s.pc) s.pc), some s⟩

/-- The timing driver changes the byte at 0xFF44 and nothing else, and the default host stops at the first step
boundary with pc = 0xFFFF, before that byte runs (R283 and R284). That
the default host takes the step with no write before it is the model's choice (notes/assumptions/15.md). -/
def Obligations.HostTimingAndDefaultStop : Prop :=
  (∀ (s : State) (v : Byte), ∃ t,
    (Run.mk .running (some s)).event (.timing v) = ⟨.running, some t⟩ ∧ t = { s with mem := t.mem } ∧
    ∀ b, t.read b = if b = 0xFF44 then v else s.read b) ∧
  (∀ (s : State) (n : Nat), s.pc = 0xFFFF →
    Run.default ⟨.running, some s⟩ (n + 1) = ⟨.stopped, some s⟩) ∧
  (∀ (s t : State) (n : Nat), s.pc ≠ 0xFFFF → step s = .next t →
    Run.default ⟨.running, some s⟩ (n + 1) = Run.default ⟨.running, some t⟩ n)
end

