-- ==== Sys2Proof/Laws/State.lean ====
section
/-! SUPPORT. What each update of the state leaves alone, one lemma per field and update. -/

namespace Sys2Proof.Machine

variable (s : State)

/-! ### `setReg` -/

@[simp] theorem State.f_setReg (r : Reg8) (v : Byte) : (s.setReg r v).f = s.f := by cases r <;> rfl
@[simp] theorem State.sp_setReg (r : Reg8) (v : Byte) : (s.setReg r v).sp = s.sp := by cases r <;> rfl
@[simp] theorem State.pc_setReg (r : Reg8) (v : Byte) : (s.setReg r v).pc = s.pc := by cases r <;> rfl
@[simp] theorem State.ime_setReg (r : Reg8) (v : Byte) : (s.setReg r v).ime = s.ime := by cases r <;> rfl
@[simp] theorem State.mem_setReg (r : Reg8) (v : Byte) : (s.setReg r v).mem = s.mem := by cases r <;> rfl
@[simp] theorem State.cfg_setReg (r : Reg8) (v : Byte) : (s.setReg r v).cfg = s.cfg := by cases r <;> rfl
@[simp] theorem State.read_setReg (r : Reg8) (v : Byte) (y : Word) :
    (s.setReg r v).read y = s.read y := by cases r <;> rfl
@[simp] theorem State.flag_setReg (r : Reg8) (v : Byte) (g : Flag) :
    (s.setReg r v).flag g = s.flag g := by cases r <;> rfl

/-! ### `setF` -/

@[simp] theorem State.a_setF (v : Byte) : (s.setF v).a = s.a := rfl
@[simp] theorem State.b_setF (v : Byte) : (s.setF v).b = s.b := rfl
@[simp] theorem State.c_setF (v : Byte) : (s.setF v).c = s.c := rfl
@[simp] theorem State.d_setF (v : Byte) : (s.setF v).d = s.d := rfl
@[simp] theorem State.e_setF (v : Byte) : (s.setF v).e = s.e := rfl
@[simp] theorem State.h_setF (v : Byte) : (s.setF v).h = s.h := rfl
@[simp] theorem State.l_setF (v : Byte) : (s.setF v).l = s.l := rfl
@[simp] theorem State.sp_setF (v : Byte) : (s.setF v).sp = s.sp := rfl
@[simp] theorem State.pc_setF (v : Byte) : (s.setF v).pc = s.pc := rfl
@[simp] theorem State.ime_setF (v : Byte) : (s.setF v).ime = s.ime := rfl
@[simp] theorem State.mem_setF (v : Byte) : (s.setF v).mem = s.mem := rfl
@[simp] theorem State.cfg_setF (v : Byte) : (s.setF v).cfg = s.cfg := rfl
@[simp] theorem State.read_setF (v : Byte) (y : Word) : (s.setF v).read y = s.read y := rfl

/-! ### `setFlag` -/

@[simp] theorem State.a_setFlag (fl : Flag) (v : Bool) : (s.setFlag fl v).a = s.a := rfl
@[simp] theorem State.b_setFlag (fl : Flag) (v : Bool) : (s.setFlag fl v).b = s.b := rfl
@[simp] theorem State.c_setFlag (fl : Flag) (v : Bool) : (s.setFlag fl v).c = s.c := rfl
@[simp] theorem State.d_setFlag (fl : Flag) (v : Bool) : (s.setFlag fl v).d = s.d := rfl
@[simp] theorem State.e_setFlag (fl : Flag) (v : Bool) : (s.setFlag fl v).e = s.e := rfl
@[simp] theorem State.h_setFlag (fl : Flag) (v : Bool) : (s.setFlag fl v).h = s.h := rfl
@[simp] theorem State.l_setFlag (fl : Flag) (v : Bool) : (s.setFlag fl v).l = s.l := rfl
@[simp] theorem State.sp_setFlag (fl : Flag) (v : Bool) : (s.setFlag fl v).sp = s.sp := rfl
@[simp] theorem State.pc_setFlag (fl : Flag) (v : Bool) : (s.setFlag fl v).pc = s.pc := rfl
@[simp] theorem State.ime_setFlag (fl : Flag) (v : Bool) : (s.setFlag fl v).ime = s.ime := rfl
@[simp] theorem State.mem_setFlag (fl : Flag) (v : Bool) : (s.setFlag fl v).mem = s.mem := rfl
@[simp] theorem State.cfg_setFlag (fl : Flag) (v : Bool) : (s.setFlag fl v).cfg = s.cfg := rfl
@[simp] theorem State.read_setFlag (fl : Flag) (v : Bool) (y : Word) : (s.setFlag fl v).read y = s.read y := rfl

/-! ### `setFlags` -/

@[simp] theorem State.a_setFlags (z n h c : Bool) : (s.setFlags z n h c).a = s.a := rfl
@[simp] theorem State.b_setFlags (z n h c : Bool) : (s.setFlags z n h c).b = s.b := rfl
@[simp] theorem State.c_setFlags (z n h c : Bool) : (s.setFlags z n h c).c = s.c := rfl
@[simp] theorem State.d_setFlags (z n h c : Bool) : (s.setFlags z n h c).d = s.d := rfl
@[simp] theorem State.e_setFlags (z n h c : Bool) : (s.setFlags z n h c).e = s.e := rfl
@[simp] theorem State.h_setFlags (z n h c : Bool) : (s.setFlags z n h c).h = s.h := rfl
@[simp] theorem State.l_setFlags (z n h c : Bool) : (s.setFlags z n h c).l = s.l := rfl
@[simp] theorem State.sp_setFlags (z n h c : Bool) : (s.setFlags z n h c).sp = s.sp := rfl
@[simp] theorem State.pc_setFlags (z n h c : Bool) : (s.setFlags z n h c).pc = s.pc := rfl
@[simp] theorem State.ime_setFlags (z n h c : Bool) : (s.setFlags z n h c).ime = s.ime := rfl
@[simp] theorem State.mem_setFlags (z n h c : Bool) : (s.setFlags z n h c).mem = s.mem := rfl
@[simp] theorem State.cfg_setFlags (z n h c : Bool) : (s.setFlags z n h c).cfg = s.cfg := rfl
@[simp] theorem State.read_setFlags (z n h c : Bool) (y : Word) : (s.setFlags z n h c).read y = s.read y := rfl

/-! ### `setZnh` -/

@[simp] theorem State.a_setZnh (z n h : Bool) : (s.setZnh z n h).a = s.a := rfl
@[simp] theorem State.b_setZnh (z n h : Bool) : (s.setZnh z n h).b = s.b := rfl
@[simp] theorem State.c_setZnh (z n h : Bool) : (s.setZnh z n h).c = s.c := rfl
@[simp] theorem State.d_setZnh (z n h : Bool) : (s.setZnh z n h).d = s.d := rfl
@[simp] theorem State.e_setZnh (z n h : Bool) : (s.setZnh z n h).e = s.e := rfl
@[simp] theorem State.h_setZnh (z n h : Bool) : (s.setZnh z n h).h = s.h := rfl
@[simp] theorem State.l_setZnh (z n h : Bool) : (s.setZnh z n h).l = s.l := rfl
@[simp] theorem State.sp_setZnh (z n h : Bool) : (s.setZnh z n h).sp = s.sp := rfl
@[simp] theorem State.pc_setZnh (z n h : Bool) : (s.setZnh z n h).pc = s.pc := rfl
@[simp] theorem State.ime_setZnh (z n h : Bool) : (s.setZnh z n h).ime = s.ime := rfl
@[simp] theorem State.mem_setZnh (z n h : Bool) : (s.setZnh z n h).mem = s.mem := rfl
@[simp] theorem State.cfg_setZnh (z n h : Bool) : (s.setZnh z n h).cfg = s.cfg := rfl
@[simp] theorem State.read_setZnh (z n h : Bool) (y : Word) : (s.setZnh z n h).read y = s.read y := rfl

/-! ### `setNhc` -/

@[simp] theorem State.a_setNhc (n h c : Bool) : (s.setNhc n h c).a = s.a := rfl
@[simp] theorem State.b_setNhc (n h c : Bool) : (s.setNhc n h c).b = s.b := rfl
@[simp] theorem State.c_setNhc (n h c : Bool) : (s.setNhc n h c).c = s.c := rfl
@[simp] theorem State.d_setNhc (n h c : Bool) : (s.setNhc n h c).d = s.d := rfl
@[simp] theorem State.e_setNhc (n h c : Bool) : (s.setNhc n h c).e = s.e := rfl
@[simp] theorem State.h_setNhc (n h c : Bool) : (s.setNhc n h c).h = s.h := rfl
@[simp] theorem State.l_setNhc (n h c : Bool) : (s.setNhc n h c).l = s.l := rfl
@[simp] theorem State.sp_setNhc (n h c : Bool) : (s.setNhc n h c).sp = s.sp := rfl
@[simp] theorem State.pc_setNhc (n h c : Bool) : (s.setNhc n h c).pc = s.pc := rfl
@[simp] theorem State.ime_setNhc (n h c : Bool) : (s.setNhc n h c).ime = s.ime := rfl
@[simp] theorem State.mem_setNhc (n h c : Bool) : (s.setNhc n h c).mem = s.mem := rfl
@[simp] theorem State.cfg_setNhc (n h c : Bool) : (s.setNhc n h c).cfg = s.cfg := rfl
@[simp] theorem State.read_setNhc (n h c : Bool) (y : Word) : (s.setNhc n h c).read y = s.read y := rfl

/-! ### `setHl` -/

@[simp] theorem State.a_setHl (v : Word) : (s.setHl v).a = s.a := rfl
@[simp] theorem State.f_setHl (v : Word) : (s.setHl v).f = s.f := rfl
@[simp] theorem State.b_setHl (v : Word) : (s.setHl v).b = s.b := rfl
@[simp] theorem State.c_setHl (v : Word) : (s.setHl v).c = s.c := rfl
@[simp] theorem State.d_setHl (v : Word) : (s.setHl v).d = s.d := rfl
@[simp] theorem State.e_setHl (v : Word) : (s.setHl v).e = s.e := rfl
@[simp] theorem State.sp_setHl (v : Word) : (s.setHl v).sp = s.sp := rfl
@[simp] theorem State.pc_setHl (v : Word) : (s.setHl v).pc = s.pc := rfl
@[simp] theorem State.ime_setHl (v : Word) : (s.setHl v).ime = s.ime := rfl
@[simp] theorem State.mem_setHl (v : Word) : (s.setHl v).mem = s.mem := rfl
@[simp] theorem State.cfg_setHl (v : Word) : (s.setHl v).cfg = s.cfg := rfl
@[simp] theorem State.read_setHl (v : Word) (y : Word) : (s.setHl v).read y = s.read y := rfl
@[simp] theorem State.flag_setHl (v : Word) (g : Flag) : (s.setHl v).flag g = s.flag g := rfl

/-! ### `setPair` -/

@[simp] theorem State.a_setPair (p : Pair) (v : Word) : (s.setPair p v).a = s.a := by cases p <;> rfl
@[simp] theorem State.f_setPair (p : Pair) (v : Word) : (s.setPair p v).f = s.f := by cases p <;> rfl
@[simp] theorem State.pc_setPair (p : Pair) (v : Word) : (s.setPair p v).pc = s.pc := by cases p <;> rfl
@[simp] theorem State.ime_setPair (p : Pair) (v : Word) : (s.setPair p v).ime = s.ime := by cases p <;> rfl
@[simp] theorem State.mem_setPair (p : Pair) (v : Word) : (s.setPair p v).mem = s.mem := by cases p <;> rfl
@[simp] theorem State.cfg_setPair (p : Pair) (v : Word) : (s.setPair p v).cfg = s.cfg := by cases p <;> rfl
@[simp] theorem State.read_setPair (p : Pair) (v : Word) (y : Word) :
    (s.setPair p v).read y = s.read y := by cases p <;> rfl
@[simp] theorem State.flag_setPair (p : Pair) (v : Word) (g : Flag) :
    (s.setPair p v).flag g = s.flag g := by cases p <;> rfl

/-! ### `setStackPair` -/

@[simp] theorem State.sp_setStackPair (p : StackPair) (v : Word) :
    (s.setStackPair p v).sp = s.sp := by cases p <;> rfl
@[simp] theorem State.pc_setStackPair (p : StackPair) (v : Word) :
    (s.setStackPair p v).pc = s.pc := by cases p <;> rfl
@[simp] theorem State.ime_setStackPair (p : StackPair) (v : Word) :
    (s.setStackPair p v).ime = s.ime := by cases p <;> rfl
@[simp] theorem State.mem_setStackPair (p : StackPair) (v : Word) :
    (s.setStackPair p v).mem = s.mem := by cases p <;> rfl
@[simp] theorem State.cfg_setStackPair (p : StackPair) (v : Word) :
    (s.setStackPair p v).cfg = s.cfg := by cases p <;> rfl
@[simp] theorem State.read_setStackPair (p : StackPair) (v : Word) (y : Word) :
    (s.setStackPair p v).read y = s.read y := by cases p <;> rfl

/-! ### `advance` -/

@[simp] theorem State.a_advance (n : Nat) : (s.advance n).a = s.a := rfl
@[simp] theorem State.f_advance (n : Nat) : (s.advance n).f = s.f := rfl
@[simp] theorem State.b_advance (n : Nat) : (s.advance n).b = s.b := rfl
@[simp] theorem State.c_advance (n : Nat) : (s.advance n).c = s.c := rfl
@[simp] theorem State.d_advance (n : Nat) : (s.advance n).d = s.d := rfl
@[simp] theorem State.e_advance (n : Nat) : (s.advance n).e = s.e := rfl
@[simp] theorem State.h_advance (n : Nat) : (s.advance n).h = s.h := rfl
@[simp] theorem State.l_advance (n : Nat) : (s.advance n).l = s.l := rfl
@[simp] theorem State.sp_advance (n : Nat) : (s.advance n).sp = s.sp := rfl
@[simp] theorem State.ime_advance (n : Nat) : (s.advance n).ime = s.ime := rfl
@[simp] theorem State.mem_advance (n : Nat) : (s.advance n).mem = s.mem := rfl
@[simp] theorem State.cfg_advance (n : Nat) : (s.advance n).cfg = s.cfg := rfl
@[simp] theorem State.read_advance (n : Nat) (y : Word) : (s.advance n).read y = s.read y := rfl
@[simp] theorem State.flag_advance (n : Nat) (g : Flag) : (s.advance n).flag g = s.flag g := rfl

/-! ### `jump` -/

@[simp] theorem State.a_jump (t : Word) : (s.jump t).a = s.a := rfl
@[simp] theorem State.f_jump (t : Word) : (s.jump t).f = s.f := rfl
@[simp] theorem State.b_jump (t : Word) : (s.jump t).b = s.b := rfl
@[simp] theorem State.c_jump (t : Word) : (s.jump t).c = s.c := rfl
@[simp] theorem State.d_jump (t : Word) : (s.jump t).d = s.d := rfl
@[simp] theorem State.e_jump (t : Word) : (s.jump t).e = s.e := rfl
@[simp] theorem State.h_jump (t : Word) : (s.jump t).h = s.h := rfl
@[simp] theorem State.l_jump (t : Word) : (s.jump t).l = s.l := rfl
@[simp] theorem State.sp_jump (t : Word) : (s.jump t).sp = s.sp := rfl
@[simp] theorem State.ime_jump (t : Word) : (s.jump t).ime = s.ime := rfl
@[simp] theorem State.mem_jump (t : Word) : (s.jump t).mem = s.mem := rfl
@[simp] theorem State.cfg_jump (t : Word) : (s.jump t).cfg = s.cfg := rfl
@[simp] theorem State.read_jump (t : Word) (y : Word) : (s.jump t).read y = s.read y := rfl
@[simp] theorem State.flag_jump (t : Word) (g : Flag) : (s.jump t).flag g = s.flag g := rfl

/-! ### `write` -/

@[simp] theorem State.a_write (x : Word) (v : Byte) : (s.write x v).a = s.a := rfl
@[simp] theorem State.f_write (x : Word) (v : Byte) : (s.write x v).f = s.f := rfl
@[simp] theorem State.b_write (x : Word) (v : Byte) : (s.write x v).b = s.b := rfl
@[simp] theorem State.c_write (x : Word) (v : Byte) : (s.write x v).c = s.c := rfl
@[simp] theorem State.d_write (x : Word) (v : Byte) : (s.write x v).d = s.d := rfl
@[simp] theorem State.e_write (x : Word) (v : Byte) : (s.write x v).e = s.e := rfl
@[simp] theorem State.h_write (x : Word) (v : Byte) : (s.write x v).h = s.h := rfl
@[simp] theorem State.l_write (x : Word) (v : Byte) : (s.write x v).l = s.l := rfl
@[simp] theorem State.sp_write (x : Word) (v : Byte) : (s.write x v).sp = s.sp := rfl
@[simp] theorem State.pc_write (x : Word) (v : Byte) : (s.write x v).pc = s.pc := rfl
@[simp] theorem State.ime_write (x : Word) (v : Byte) : (s.write x v).ime = s.ime := rfl
@[simp] theorem State.cfg_write (x : Word) (v : Byte) : (s.write x v).cfg = s.cfg := rfl
@[simp] theorem State.flag_write (x : Word) (v : Byte) (g : Flag) : (s.write x v).flag g = s.flag g := rfl

/-! ### `moveSp` -/

@[simp] theorem State.a_moveSp (k : Int) : (s.moveSp k).a = s.a := rfl
@[simp] theorem State.f_moveSp (k : Int) : (s.moveSp k).f = s.f := rfl
@[simp] theorem State.b_moveSp (k : Int) : (s.moveSp k).b = s.b := rfl
@[simp] theorem State.c_moveSp (k : Int) : (s.moveSp k).c = s.c := rfl
@[simp] theorem State.d_moveSp (k : Int) : (s.moveSp k).d = s.d := rfl
@[simp] theorem State.e_moveSp (k : Int) : (s.moveSp k).e = s.e := rfl
@[simp] theorem State.h_moveSp (k : Int) : (s.moveSp k).h = s.h := rfl
@[simp] theorem State.l_moveSp (k : Int) : (s.moveSp k).l = s.l := rfl
@[simp] theorem State.pc_moveSp (k : Int) : (s.moveSp k).pc = s.pc := rfl
@[simp] theorem State.ime_moveSp (k : Int) : (s.moveSp k).ime = s.ime := rfl
@[simp] theorem State.mem_moveSp (k : Int) : (s.moveSp k).mem = s.mem := rfl
@[simp] theorem State.cfg_moveSp (k : Int) : (s.moveSp k).cfg = s.cfg := rfl
@[simp] theorem State.read_moveSp (k : Int) (y : Word) : (s.moveSp k).read y = s.read y := rfl
@[simp] theorem State.flag_moveSp (k : Int) (g : Flag) : (s.moveSp k).flag g = s.flag g := rfl

/-! ### `push16` -/

@[simp] theorem State.a_push16 (v : Word) : (s.push16 v).a = s.a := rfl
@[simp] theorem State.f_push16 (v : Word) : (s.push16 v).f = s.f := rfl
@[simp] theorem State.b_push16 (v : Word) : (s.push16 v).b = s.b := rfl
@[simp] theorem State.c_push16 (v : Word) : (s.push16 v).c = s.c := rfl
@[simp] theorem State.d_push16 (v : Word) : (s.push16 v).d = s.d := rfl
@[simp] theorem State.e_push16 (v : Word) : (s.push16 v).e = s.e := rfl
@[simp] theorem State.h_push16 (v : Word) : (s.push16 v).h = s.h := rfl
@[simp] theorem State.l_push16 (v : Word) : (s.push16 v).l = s.l := rfl
@[simp] theorem State.pc_push16 (v : Word) : (s.push16 v).pc = s.pc := rfl
@[simp] theorem State.ime_push16 (v : Word) : (s.push16 v).ime = s.ime := rfl
@[simp] theorem State.cfg_push16 (v : Word) : (s.push16 v).cfg = s.cfg := rfl
@[simp] theorem State.flag_push16 (v : Word) (g : Flag) : (s.push16 v).flag g = s.flag g := rfl

/-! ### `set8` -/

@[simp] theorem State.f_set8 (k : Operand8) (v : Byte) :
    (s.set8 k v).f = s.f := by rcases k with r | _ <;> first | rfl | (cases r <;> rfl)
@[simp] theorem State.sp_set8 (k : Operand8) (v : Byte) :
    (s.set8 k v).sp = s.sp := by rcases k with r | _ <;> first | rfl | (cases r <;> rfl)
@[simp] theorem State.pc_set8 (k : Operand8) (v : Byte) :
    (s.set8 k v).pc = s.pc := by rcases k with r | _ <;> first | rfl | (cases r <;> rfl)
@[simp] theorem State.ime_set8 (k : Operand8) (v : Byte) :
    (s.set8 k v).ime = s.ime := by rcases k with r | _ <;> first | rfl | (cases r <;> rfl)
@[simp] theorem State.cfg_set8 (k : Operand8) (v : Byte) :
    (s.set8 k v).cfg = s.cfg := by rcases k with r | _ <;> first | rfl | (cases r <;> rfl)
@[simp] theorem State.flag_set8 (k : Operand8) (v : Byte) (g : Flag) :
    (s.set8 k v).flag g = s.flag g := by rcases k with r | _ <;> first | rfl | (cases r <;> rfl)

/-! ### `postModify` -/

@[simp] theorem State.a_postModify (m : AddrMode) : (s.postModify m).a = s.a := by cases m <;> rfl
@[simp] theorem State.f_postModify (m : AddrMode) : (s.postModify m).f = s.f := by cases m <;> rfl
@[simp] theorem State.b_postModify (m : AddrMode) : (s.postModify m).b = s.b := by cases m <;> rfl
@[simp] theorem State.c_postModify (m : AddrMode) : (s.postModify m).c = s.c := by cases m <;> rfl
@[simp] theorem State.d_postModify (m : AddrMode) : (s.postModify m).d = s.d := by cases m <;> rfl
@[simp] theorem State.e_postModify (m : AddrMode) : (s.postModify m).e = s.e := by cases m <;> rfl
@[simp] theorem State.sp_postModify (m : AddrMode) : (s.postModify m).sp = s.sp := by cases m <;> rfl
@[simp] theorem State.pc_postModify (m : AddrMode) : (s.postModify m).pc = s.pc := by cases m <;> rfl
@[simp] theorem State.ime_postModify (m : AddrMode) : (s.postModify m).ime = s.ime := by cases m <;> rfl
@[simp] theorem State.mem_postModify (m : AddrMode) : (s.postModify m).mem = s.mem := by cases m <;> rfl
@[simp] theorem State.cfg_postModify (m : AddrMode) : (s.postModify m).cfg = s.cfg := by cases m <;> rfl
@[simp] theorem State.read_postModify (m : AddrMode) (y : Word) :
    (s.postModify m).read y = s.read y := by cases m <;> rfl
@[simp] theorem State.flag_postModify (m : AddrMode) (g : Flag) :
    (s.postModify m).flag g = s.flag g := by cases m <;> rfl

/-! ### `pop16` -/

@[simp] theorem State.a_pop16  : s.pop16.2.a = s.a := rfl
@[simp] theorem State.f_pop16  : s.pop16.2.f = s.f := rfl
@[simp] theorem State.b_pop16  : s.pop16.2.b = s.b := rfl
@[simp] theorem State.c_pop16  : s.pop16.2.c = s.c := rfl
@[simp] theorem State.d_pop16  : s.pop16.2.d = s.d := rfl
@[simp] theorem State.e_pop16  : s.pop16.2.e = s.e := rfl
@[simp] theorem State.h_pop16  : s.pop16.2.h = s.h := rfl
@[simp] theorem State.l_pop16  : s.pop16.2.l = s.l := rfl
@[simp] theorem State.pc_pop16  : s.pop16.2.pc = s.pc := rfl
@[simp] theorem State.ime_pop16  : s.pop16.2.ime = s.ime := rfl
@[simp] theorem State.mem_pop16  : s.pop16.2.mem = s.mem := rfl
@[simp] theorem State.cfg_pop16  : s.pop16.2.cfg = s.cfg := rfl
@[simp] theorem State.read_pop16 (y : Word) : s.pop16.2.read y = s.read y := rfl
@[simp] theorem State.flag_pop16 (g : Flag) : s.pop16.2.flag g = s.flag g := rfl

/-! ### The field an update writes -/

@[simp] theorem State.pc_advance (n : Nat) : (s.advance n).pc = s.nextPc n := rfl
@[simp] theorem State.pc_jump (t : Word) : (s.jump t).pc = t := rfl
@[simp] theorem State.f_setF (v : Byte) : (s.setF v).f = v &&& 0xF0 := rfl
@[simp] theorem State.getReg_setReg (r q : Reg8) (v : Byte) :
    (s.setReg r v).getReg q = if q = r then v else s.getReg q := by cases r <;> cases q <;> rfl

/-! ### Pairs and bytes -/

theorem hiByte_toNat (v : Word) : (hiByte v).toNat = v.toNat / 256 := by
  have := v.isLt
  simp only [hiByte, BitVec.toNat_setWidth, BitVec.toNat_ushiftRight, Nat.shiftRight_eq_div_pow]
  omega

theorem loByte_toNat (v : Word) : (loByte v).toNat = v.toNat % 256 := by
  simp only [loByte, BitVec.toNat_setWidth]

theorem wordOf_toNat (x y : Byte) : (wordOf x y).toNat = x.toNat * 256 + y.toNat := by
  have := y.isLt
  simp only [wordOf, BitVec.toNat_append, Nat.shiftLeft_eq]
  rw [Nat.mul_comm, ← Nat.two_pow_add_eq_or_of_lt (by omega)]

@[simp] theorem hiByte_wordOf (x y : Byte) : hiByte (wordOf x y) = x := by
  have := y.isLt
  exact BitVec.eq_of_toNat_eq (by rw [hiByte_toNat, wordOf_toNat]; omega)

@[simp] theorem loByte_wordOf (x y : Byte) : loByte (wordOf x y) = y := by
  have := y.isLt
  exact BitVec.eq_of_toNat_eq (by rw [loByte_toNat, wordOf_toNat]; omega)

@[simp] theorem wordOf_hiByte_loByte (v : Word) : wordOf (hiByte v) (loByte v) = v :=
  BitVec.eq_of_toNat_eq (by rw [wordOf_toNat, hiByte_toNat, loByte_toNat]; omega)

@[simp] theorem State.hl_setHl (v : Word) : (s.setHl v).hl = v := wordOf_hiByte_loByte v

@[simp] theorem State.getPair_setPair (p q : Pair) (v : Word) :
    (s.setPair p v).getPair q = if q = p then v else s.getPair q := by
  cases p <;> cases q <;> first | rfl | exact wordOf_hiByte_loByte v

end Sys2Proof.Machine
end

