-- ==== Sys2Proof/Laws/Flags.lean ====
section
/-! SUPPORT. Reading and writing flags: every write of F leaves the byte of its four flags. -/

namespace Sys2Proof.Machine

/-- A flag in a byte of F. -/
def flagOf (f : Byte) (g : Flag) : Bool := f.getLsbD (flagBit g)

theorem State.flag_eq (s : State) (g : Flag) : s.flag g = flagOf s.f g := rfl

@[simp] theorem flagOf_flagByte (z n h c : Bool) (g : Flag) :
    flagOf (flagByte z n h c) g = (match g with | .z => z | .n => n | .h => h | .c => c) := by
  cases g <;> revert z n h c <;> decide

@[simp] theorem flagByte_low (z n h c : Bool) : flagByte z n h c &&& 0x0F#8 = 0#8 := by
  revert z n h c; decide

theorem putFlag_masked (f : Byte) (g : Flag) (v : Bool) :
    putFlag f g v &&& 0xF0 =
      flagByte (if g = .z then v else flagOf f .z) (if g = .n then v else flagOf f .n)
        (if g = .h then v else flagOf f .h) (if g = .c then v else flagOf f .c) := by
  cases g <;> cases v <;> revert f <;> decide

/-- F after one flag is written: the other three flags are kept, the low bits are zero (10_state.md rule R22). -/
theorem State.f_setFlag (s : State) (g : Flag) (v : Bool) :
    (s.setFlag g v).f =
      flagByte (if g = .z then v else s.flag .z) (if g = .n then v else s.flag .n)
        (if g = .h then v else s.flag .h) (if g = .c then v else s.flag .c) :=
  putFlag_masked s.f g v

@[simp] theorem State.flag_setFlag (s : State) (g k : Flag) (v : Bool) :
    (s.setFlag g v).flag k = if k = g then v else s.flag k := by
  rw [State.flag_eq, State.f_setFlag, flagOf_flagByte]
  cases k <;> cases g <;> rfl

@[simp] theorem State.f_setFlags (s : State) (z n h c : Bool) : (s.setFlags z n h c).f = flagByte z n h c := by
  simp [State.setFlags, State.f_setFlag]

@[simp] theorem State.f_setZnh (s : State) (z n h : Bool) : (s.setZnh z n h).f = flagByte z n h (s.flag .c) := by
  simp [State.setZnh, State.f_setFlag]

@[simp] theorem State.f_setNhc (s : State) (n h c : Bool) : (s.setNhc n h c).f = flagByte (s.flag .z) n h c := by
  simp [State.setNhc, State.f_setFlag]

@[simp] theorem State.flag_setFlags (s : State) (z n h c : Bool) (g : Flag) :
    (s.setFlags z n h c).flag g = (match g with | .z => z | .n => n | .h => h | .c => c) := by
  rw [State.flag_eq, State.f_setFlags, flagOf_flagByte]

/-- A whole-byte write of F leaves its low bits zero. -/
theorem maskF_low (v : Byte) : (v &&& 0xF0#8) &&& 0x0F#8 = 0#8 := by
  rw [BitVec.and_assoc]; exact BitVec.and_zero

end Sys2Proof.Machine
end

