-- ==== Sys2Proof/Laws/Memory.lean ====
section
/-! SUPPORT. The laws of the storage and of the byte interface. -/

namespace Sys2Proof.Machine

/-! ### Reading a cell after a write; no condition on the list -/

theorem Memory.cell_cons (k : Nat) (w : Byte) (m : Memory) (b : Nat) :
    Memory.cell ((k, w) :: m) b = if k = b then w else m.cell b := rfl

theorem Memory.cell_erase (m : Memory) (a b : Nat) :
    (m.erase a).cell b = if b = a then 0 else m.cell b := by
  induction m with
  | nil => simp [Memory.erase, Memory.cell]
  | cons kv m ih =>
    obtain ⟨k, v⟩ := kv
    by_cases hk : k = a
    · rw [Memory.erase, if_pos hk, ih, Memory.cell_cons]
      split
      · rfl
      · rw [if_neg (by omega)]
    · rw [Memory.erase, if_neg hk, Memory.cell_cons, Memory.cell_cons, ih]
      by_cases hb : k = b
      · rw [if_pos hb, if_pos hb, if_neg (by omega)]
      · rw [if_neg hb, if_neg hb]

theorem Memory.cell_insert (m : Memory) (a b : Nat) (v : Byte) (hfresh : ∀ c ∈ m, c.1 ≠ a) :
    (m.insert a v).cell b = if b = a then v else m.cell b := by
  induction m with
  | nil =>
    rw [Memory.insert, Memory.cell_cons]
    by_cases hb : b = a
    · rw [if_pos hb, if_pos hb.symm]
    · rw [if_neg hb, if_neg (Ne.symm hb)]
  | cons kv m ih =>
    obtain ⟨k, w⟩ := kv
    have hk : k ≠ a := hfresh (k, w) (by simp)
    have ih' := ih fun c hc => hfresh c (by simp [hc])
    by_cases hlt : a < k
    · rw [Memory.insert, if_pos hlt, Memory.cell_cons]
      by_cases hb : b = a
      · rw [if_pos hb, if_pos hb.symm]
      · rw [if_neg hb, if_neg (Ne.symm hb)]
    · rw [Memory.insert, if_neg hlt, Memory.cell_cons, Memory.cell_cons, ih']
      by_cases hb : k = b
      · rw [if_pos hb, if_pos hb, if_neg (by omega)]
      · rw [if_neg hb, if_neg hb]

theorem Memory.mem_erase (m : Memory) (a : Nat) (c : Host.Cell) : c ∈ m.erase a ↔ c ∈ m ∧ c.1 ≠ a := by
  induction m with
  | nil => simp [Memory.erase]
  | cons kv m ih =>
    obtain ⟨k, v⟩ := kv
    by_cases hk : k = a
    · subst hk
      simp only [Memory.erase, if_true, ih, List.mem_cons]
      constructor
      · rintro ⟨h1, h2⟩; exact ⟨.inr h1, h2⟩
      · rintro ⟨rfl | h1, h2⟩
        · exact absurd rfl h2
        · exact ⟨h1, h2⟩
    · simp only [Memory.erase, hk, if_false, List.mem_cons, ih]
      constructor
      · rintro (rfl | ⟨h1, h2⟩)
        · exact ⟨.inl rfl, hk⟩
        · exact ⟨.inr h1, h2⟩
      · rintro ⟨rfl | h1, h2⟩
        · exact .inl rfl
        · exact .inr ⟨h1, h2⟩

/-- A cell reads what was last written to it, and a write leaves every other cell alone. -/
@[simp] theorem Memory.cell_setCell (m : Memory) (a b : Nat) (v : Byte) :
    (m.setCell a v).cell b = if b = a then v else m.cell b := by
  unfold Memory.setCell
  split
  · subst_vars; exact Memory.cell_erase m a b
  · rw [Memory.cell_insert _ _ _ _ fun c hc => ((Memory.mem_erase m a c).1 hc).2, Memory.cell_erase]
    by_cases hb : b = a
    · rw [if_pos hb, if_pos hb]
    · rw [if_neg hb, if_neg hb, if_neg hb]

/-! ### The canonical form -/

theorem Memory.risesFrom_mono {lo lo' : Nat} {m : Memory} (hle : lo' ≤ lo) (h : Memory.risesFrom lo m = true) :
    Memory.risesFrom lo' m = true := by
  cases m with
  | nil => rfl
  | cons kv m =>
    simp only [Memory.risesFrom, Bool.and_eq_true, decide_eq_true_eq] at h ⊢
    exact ⟨by omega, h.2⟩

theorem Memory.risesFrom_erase {lo : Nat} {m : Memory} (a : Nat) (h : Memory.risesFrom lo m = true) :
    Memory.risesFrom lo (m.erase a) = true := by
  induction m generalizing lo with
  | nil => rfl
  | cons kv m ih =>
    obtain ⟨k, v⟩ := kv
    simp only [Memory.risesFrom, Bool.and_eq_true, decide_eq_true_eq] at h
    by_cases hk : k = a
    · simp only [Memory.erase, hk, if_true]
      exact ih (Memory.risesFrom_mono (by omega) h.2)
    · simp only [Memory.erase, hk, if_false, Memory.risesFrom, Bool.and_eq_true, decide_eq_true_eq]
      exact ⟨h.1, ih h.2⟩

theorem Memory.risesFrom_insert {lo a : Nat} {m : Memory} (v : Byte) (hlo : lo ≤ a) (h : Memory.risesFrom lo m = true)
    (hfresh : ∀ c ∈ m, c.1 ≠ a) : Memory.risesFrom lo (m.insert a v) = true := by
  induction m generalizing lo with
  | nil => simp [Memory.insert, Memory.risesFrom, hlo]
  | cons kv m ih =>
    obtain ⟨k, w⟩ := kv
    have hk : k ≠ a := hfresh (k, w) (by simp)
    simp only [Memory.risesFrom, Bool.and_eq_true, decide_eq_true_eq] at h
    by_cases hlt : a < k
    · simp only [Memory.insert, hlt, if_true, Memory.risesFrom, Bool.and_eq_true, decide_eq_true_eq]
      exact ⟨hlo, by omega, h.2⟩
    · simp only [Memory.insert, hlt, if_false, Memory.risesFrom, Bool.and_eq_true, decide_eq_true_eq]
      exact ⟨h.1, ih (by omega) h.2 fun c hc => hfresh c (by simp [hc])⟩

theorem Memory.mem_insert (m : Memory) (a : Nat) (v : Byte) (c : Host.Cell) :
    c ∈ m.insert a v ↔ c = (a, v) ∨ c ∈ m := by
  induction m with
  | nil => simp [Memory.insert]
  | cons kv m ih =>
    obtain ⟨k, w⟩ := kv
    by_cases hlt : a < k
    · simp [Memory.insert, hlt]
    · simp only [Memory.insert, hlt, if_false, List.mem_cons, ih]
      tauto

theorem Memory.mem_setCell (m : Memory) (a : Nat) (v : Byte) (c : Host.Cell) :
    c ∈ m.setCell a v ↔ (c = (a, v) ∧ v ≠ 0) ∨ (c ∈ m ∧ c.1 ≠ a) := by
  unfold Memory.setCell
  split
  · subst_vars; simp [Memory.mem_erase]
  · rename_i h
    rw [Memory.mem_insert, Memory.mem_erase]
    tauto

/-- A write keeps the canonical form. -/
theorem Memory.wf_setCell {m : Memory} (h : m.wf = true) {a : Nat} (ha : a < 65536) (v : Byte) :
    (m.setCell a v).wf = true := by
  simp only [Memory.wf, Bool.and_eq_true, List.all_eq_true, decide_eq_true_eq, bne_iff_ne] at h ⊢
  refine ⟨?_, fun c hc => ?_⟩
  · have he := Memory.risesFrom_erase a h.1
    unfold Memory.setCell
    split
    · exact he
    · exact Memory.risesFrom_insert v (Nat.zero_le a) he fun c hc => ((Memory.mem_erase m a c).1 hc).2
  · rcases (Memory.mem_setCell m a v c).1 hc with ⟨rfl, hv⟩ | ⟨hm, -⟩
    · exact ⟨ha, hv⟩
    · exact h.2 c hm

/-! ### The byte interface -/

theorem echoTranslate_toNat (a : Word) :
    (echoTranslate a).toNat = if 0xE000 ≤ a.toNat ∧ a.toNat < 0xFDFF then a.toNat - 0x2000 else a.toNat := by
  unfold echoTranslate trunc16
  split
  · rename_i h
    have : ((a.toNat : Int) - 0x2000) = ((a.toNat - 0x2000 : Nat) : Int) := by omega
    rw [this, BitVec.ofInt_natCast, BitVec.toNat_ofNat]
    exact Nat.mod_eq_of_lt (by omega)
  · rfl

/-- No access reaches a cell behind the echo range (20_memory.md rule R52). -/
theorem echoTranslate_not_hidden (a : Word) : hiddenCell (echoTranslate a).toNat = false := by
  rw [echoTranslate_toNat]
  unfold hiddenCell
  rw [Bool.and_eq_false_imp]
  intro h
  rw [decide_eq_true_eq] at h
  rw [decide_eq_false_iff_not]
  split at h <;> split <;> omega

theorem echoTranslate_lt (a : Word) : (echoTranslate a).toNat < 65536 := (echoTranslate a).isLt

/-- A read after a write: the written byte at every address of the same cell, the old byte elsewhere. -/
@[simp] theorem State.read_write (s : State) (a b : Word) (v : Byte) :
    (s.write a v).read b = if echoTranslate b = echoTranslate a then v else s.read b := by
  show (s.mem.setCell _ v).cell _ = _
  rw [Memory.cell_setCell]
  simp only [BitVec.toNat_inj]
  rfl

/-- Neighbouring addresses reach different cells. -/
theorem echoTranslate_succ_ne (a : Word) : echoTranslate (a + 1) ≠ echoTranslate a := by
  intro h
  have h' := congrArg BitVec.toNat h
  rw [echoTranslate_toNat, echoTranslate_toNat, BitVec.toNat_add, show (1 : Word).toNat = 1 from rfl] at h'
  have := a.isLt
  split at h' <;> split at h' <;> omega

/-- A store through the byte interface keeps the canonical form. -/
theorem State.write_mem_wf {s : State} (h : s.mem.wf = true) (a : Word) (v : Byte) : (s.write a v).mem.wf = true :=
  Memory.wf_setCell h (echoTranslate_lt a) v

/-- A block of stores keeps the canonical form. -/
theorem State.writeBlock_mem_wf {s : State} (h : s.mem.wf = true) (a : Word) (vs : List Byte) :
    (s.writeBlock a vs).mem.wf = true := by
  induction vs generalizing a with
  | nil => exact h
  | cons v vs ih => exact State.write_mem_wf (ih (a + 1)) a v

/-- The bank copy keeps the canonical form. -/
theorem copyBanks_wf {m : Memory} (h : m.wf = true) (image : List Byte) {n : Nat} (hn : n ≤ 65536) :
    (copyBanks image n m).wf = true := by
  induction n generalizing m with
  | zero => exact h
  | succ n ih => exact ih (Memory.wf_setCell h (by omega) _) (by omega)

theorem reset_mem_wf : State.reset.mem.wf = true := rfl

end Sys2Proof.Machine
end

