-- ==== Sys2Proof/Laws/Shape.lean ====
section
/-! SUPPORT. Every instruction seen as one of the shapes of Decode.lean, and what `exec` answers for each shape: the
one place where the arms of `exec` are gone through. A proof over all instructions is `cases shape i`, then the lemma
`exec_<shape>`. -/

namespace Sys2Proof.Machine

/-- The shapes; `illegal` and `prefixCb` stand for themselves. -/
inductive Shape : Instr → Prop where
  | alu (op : AluOp) (src : Src8) : Shape (.ofAlu op src)
  | addHl (p : Pair) : Shape (.ofAddHl p)
  | addSpE8 (e : Byte) : Shape (.addSpE8 e)
  | inc8 (k : Operand8) : Shape (.ofInc8 k)
  | dec8 (k : Operand8) : Shape (.ofDec8 k)
  | inc16 (p : Pair) : Shape (.ofInc16 p)
  | dec16 (p : Pair) : Shape (.ofDec16 p)
  | shift (op : ShiftOp) (k : Operand8) : Shape (.ofShift op k)
  | rlca : Shape (.rlca)
  | rrca : Shape (.rrca)
  | rla : Shape (.rla)
  | rra : Shape (.rra)
  | bit (b : Fin 8) (k : Operand8) : Shape (.ofBit b k)
  | res (b : Fin 8) (k : Operand8) : Shape (.ofRes b k)
  | set (b : Fin 8) (k : Operand8) : Shape (.ofSet b k)
  | ldReg (r : Reg8) (src : Src8) : Shape (.ofLdReg r src)
  | ldIndHl (r : Reg8) : Shape (.ofLdIndHl r)
  | ldIndHlD8 (n : Byte) : Shape (.ldIndHlD8 n)
  | ldPair (p : Pair) (nn : Word) : Shape (.ofLdPair p nn)
  | storeA (m : AddrMode) : Shape (.ofStoreA m)
  | loadA (m : AddrMode) : Shape (.ofLoadA m)
  | ldIndA16Sp (nn : Word) : Shape (.ldIndA16Sp nn)
  | ldSpHl : Shape (.ldSpHl)
  | ldHlSpE8 (e : Byte) : Shape (.ldHlSpE8 e)
  | push (p : StackPair) : Shape (.ofPush p)
  | pop (p : StackPair) : Shape (.ofPop p)
  | jpA16 (nn : Word) : Shape (.jpA16 nn)
  | jpHl : Shape (.jpHl)
  | jrE8 (e : Byte) : Shape (.jrE8 e)
  | callA16 (nn : Word) : Shape (.callA16 nn)
  | ret : Shape (.ret)
  | reti : Shape (.reti)
  | jpCond (cc : Cond) (nn : Word) : Shape (.ofJpCond cc nn)
  | jrCond (cc : Cond) (e : Byte) : Shape (.ofJrCond cc e)
  | callCond (cc : Cond) (nn : Word) : Shape (.ofCallCond cc nn)
  | retCond (cc : Cond) : Shape (.ofRetCond cc)
  | rst (y : Fin 8) : Shape (.ofRst y)
  | nop : Shape (.nop)
  | halt : Shape (.halt)
  | stop (n : Byte) : Shape (.stop n)
  | di : Shape (.di)
  | ei : Shape (.ei)
  | daa : Shape (.daa)
  | cpl : Shape (.cpl)
  | scf : Shape (.scf)
  | ccf : Shape (.ccf)
  | illegal (op : Byte) : Shape (.illegal op)
  | prefixCb (cbop : Byte) : Shape (.prefixCb cbop)

theorem shape : (i : Instr) → Shape i
  | .nop => .nop | .ldBcD16 nn => .ldPair .bc nn | .ldIndBcA => .storeA .indBc | .incBc => .inc16 .bc
  | .incB => .inc8 (.reg .b) | .decB => .dec8 (.reg .b) | .ldBD8 n => .ldReg .b (.imm n) | .rlca => .rlca
  | .ldIndA16Sp nn => .ldIndA16Sp nn | .addHlBc => .addHl .bc | .ldAIndBc => .loadA .indBc
  | .decBc => .dec16 .bc | .incC => .inc8 (.reg .c) | .decC => .dec8 (.reg .c) | .ldCD8 n => .ldReg .c (.imm n)
  | .rrca => .rrca | .stop n => .stop n | .ldDeD16 nn => .ldPair .de nn | .ldIndDeA => .storeA .indDe
  | .incDe => .inc16 .de | .incD => .inc8 (.reg .d) | .decD => .dec8 (.reg .d) | .ldDD8 n => .ldReg .d (.imm n)
  | .rla => .rla | .jrE8 e => .jrE8 e | .addHlDe => .addHl .de | .ldAIndDe => .loadA .indDe
  | .decDe => .dec16 .de | .incE => .inc8 (.reg .e) | .decE => .dec8 (.reg .e) | .ldED8 n => .ldReg .e (.imm n)
  | .rra => .rra | .jrNzE8 e => .jrCond .nz e | .ldHlD16 nn => .ldPair .hl nn | .ldHliA => .storeA .hlInc
  | .incHl => .inc16 .hl | .incH => .inc8 (.reg .h) | .decH => .dec8 (.reg .h) | .ldHD8 n => .ldReg .h (.imm n)
  | .daa => .daa | .jrZE8 e => .jrCond .z e | .addHlHl => .addHl .hl | .ldAHli => .loadA .hlInc
  | .decHl => .dec16 .hl | .incL => .inc8 (.reg .l) | .decL => .dec8 (.reg .l) | .ldLD8 n => .ldReg .l (.imm n)
  | .cpl => .cpl | .jrNcE8 e => .jrCond .nc e | .ldSpD16 nn => .ldPair .sp nn | .ldHldA => .storeA .hlDec
  | .incSp => .inc16 .sp | .incIndHl => .inc8 .indHl | .decIndHl => .dec8 .indHl | .ldIndHlD8 n => .ldIndHlD8 n
  | .scf => .scf | .jrCE8 e => .jrCond .c e | .addHlSp => .addHl .sp | .ldAHld => .loadA .hlDec
  | .decSp => .dec16 .sp | .incA => .inc8 (.reg .a) | .decA => .dec8 (.reg .a) | .ldAD8 n => .ldReg .a (.imm n)
  | .ccf => .ccf | .ldBB => .ldReg .b (.reg .b) | .ldBC => .ldReg .b (.reg .c) | .ldBD => .ldReg .b (.reg .d)
  | .ldBE => .ldReg .b (.reg .e) | .ldBH => .ldReg .b (.reg .h) | .ldBL => .ldReg .b (.reg .l)
  | .ldBIndHl => .ldReg .b .indHl | .ldBA => .ldReg .b (.reg .a) | .ldCB => .ldReg .c (.reg .b)
  | .ldCC => .ldReg .c (.reg .c) | .ldCD => .ldReg .c (.reg .d) | .ldCE => .ldReg .c (.reg .e)
  | .ldCH => .ldReg .c (.reg .h) | .ldCL => .ldReg .c (.reg .l) | .ldCIndHl => .ldReg .c .indHl
  | .ldCA => .ldReg .c (.reg .a) | .ldDB => .ldReg .d (.reg .b) | .ldDC => .ldReg .d (.reg .c)
  | .ldDD => .ldReg .d (.reg .d) | .ldDE => .ldReg .d (.reg .e) | .ldDH => .ldReg .d (.reg .h)
  | .ldDL => .ldReg .d (.reg .l) | .ldDIndHl => .ldReg .d .indHl | .ldDA => .ldReg .d (.reg .a)
  | .ldEB => .ldReg .e (.reg .b) | .ldEC => .ldReg .e (.reg .c) | .ldED => .ldReg .e (.reg .d)
  | .ldEE => .ldReg .e (.reg .e) | .ldEH => .ldReg .e (.reg .h) | .ldEL => .ldReg .e (.reg .l)
  | .ldEIndHl => .ldReg .e .indHl | .ldEA => .ldReg .e (.reg .a) | .ldHB => .ldReg .h (.reg .b)
  | .ldHC => .ldReg .h (.reg .c) | .ldHD => .ldReg .h (.reg .d) | .ldHE => .ldReg .h (.reg .e)
  | .ldHH => .ldReg .h (.reg .h) | .ldHL => .ldReg .h (.reg .l) | .ldHIndHl => .ldReg .h .indHl
  | .ldHA => .ldReg .h (.reg .a) | .ldLB => .ldReg .l (.reg .b) | .ldLC => .ldReg .l (.reg .c)
  | .ldLD => .ldReg .l (.reg .d) | .ldLE => .ldReg .l (.reg .e) | .ldLH => .ldReg .l (.reg .h)
  | .ldLL => .ldReg .l (.reg .l) | .ldLIndHl => .ldReg .l .indHl | .ldLA => .ldReg .l (.reg .a)
  | .ldIndHlB => .ldIndHl .b | .ldIndHlC => .ldIndHl .c | .ldIndHlD => .ldIndHl .d | .ldIndHlE => .ldIndHl .e
  | .ldIndHlH => .ldIndHl .h | .ldIndHlL => .ldIndHl .l | .halt => .halt | .ldIndHlA => .ldIndHl .a
  | .ldAB => .ldReg .a (.reg .b) | .ldAC => .ldReg .a (.reg .c) | .ldAD => .ldReg .a (.reg .d)
  | .ldAE => .ldReg .a (.reg .e) | .ldAH => .ldReg .a (.reg .h) | .ldAL => .ldReg .a (.reg .l)
  | .ldAIndHl => .ldReg .a .indHl | .ldAA => .ldReg .a (.reg .a) | .addAB => .alu .add (.reg .b)
  | .addAC => .alu .add (.reg .c) | .addAD => .alu .add (.reg .d) | .addAE => .alu .add (.reg .e)
  | .addAH => .alu .add (.reg .h) | .addAL => .alu .add (.reg .l) | .addAIndHl => .alu .add .indHl
  | .addAA => .alu .add (.reg .a) | .adcAB => .alu .adc (.reg .b) | .adcAC => .alu .adc (.reg .c)
  | .adcAD => .alu .adc (.reg .d) | .adcAE => .alu .adc (.reg .e) | .adcAH => .alu .adc (.reg .h)
  | .adcAL => .alu .adc (.reg .l) | .adcAIndHl => .alu .adc .indHl | .adcAA => .alu .adc (.reg .a)
  | .subB => .alu .sub (.reg .b) | .subC => .alu .sub (.reg .c) | .subD => .alu .sub (.reg .d)
  | .subE => .alu .sub (.reg .e) | .subH => .alu .sub (.reg .h) | .subL => .alu .sub (.reg .l)
  | .subIndHl => .alu .sub .indHl | .subA => .alu .sub (.reg .a) | .sbcAB => .alu .sbc (.reg .b)
  | .sbcAC => .alu .sbc (.reg .c) | .sbcAD => .alu .sbc (.reg .d) | .sbcAE => .alu .sbc (.reg .e)
  | .sbcAH => .alu .sbc (.reg .h) | .sbcAL => .alu .sbc (.reg .l) | .sbcAIndHl => .alu .sbc .indHl
  | .sbcAA => .alu .sbc (.reg .a) | .andB => .alu .and (.reg .b) | .andC => .alu .and (.reg .c)
  | .andD => .alu .and (.reg .d) | .andE => .alu .and (.reg .e) | .andH => .alu .and (.reg .h)
  | .andL => .alu .and (.reg .l) | .andIndHl => .alu .and .indHl | .andA => .alu .and (.reg .a)
  | .xorB => .alu .xor (.reg .b) | .xorC => .alu .xor (.reg .c) | .xorD => .alu .xor (.reg .d)
  | .xorE => .alu .xor (.reg .e) | .xorH => .alu .xor (.reg .h) | .xorL => .alu .xor (.reg .l)
  | .xorIndHl => .alu .xor .indHl | .xorA => .alu .xor (.reg .a) | .orB => .alu .or (.reg .b)
  | .orC => .alu .or (.reg .c) | .orD => .alu .or (.reg .d) | .orE => .alu .or (.reg .e)
  | .orH => .alu .or (.reg .h) | .orL => .alu .or (.reg .l) | .orIndHl => .alu .or .indHl
  | .orA => .alu .or (.reg .a) | .cpB => .alu .cp (.reg .b) | .cpC => .alu .cp (.reg .c)
  | .cpD => .alu .cp (.reg .d) | .cpE => .alu .cp (.reg .e) | .cpH => .alu .cp (.reg .h)
  | .cpL => .alu .cp (.reg .l) | .cpIndHl => .alu .cp .indHl | .cpA => .alu .cp (.reg .a)
  | .retNz => .retCond .nz | .popBc => .pop .bc | .jpNzA16 nn => .jpCond .nz nn | .jpA16 nn => .jpA16 nn
  | .callNzA16 nn => .callCond .nz nn | .pushBc => .push .bc | .addAD8 n => .alu .add (.imm n)
  | .rst00 => .rst 0 | .retZ => .retCond .z | .ret => .ret | .jpZA16 nn => .jpCond .z nn
  | .prefixCb cbop => .prefixCb cbop | .callZA16 nn => .callCond .z nn | .callA16 nn => .callA16 nn
  | .adcAD8 n => .alu .adc (.imm n) | .rst08 => .rst 1 | .retNc => .retCond .nc | .popDe => .pop .de
  | .jpNcA16 nn => .jpCond .nc nn | .illegal op => .illegal op | .callNcA16 nn => .callCond .nc nn
  | .pushDe => .push .de | .subD8 n => .alu .sub (.imm n) | .rst10 => .rst 2 | .retC => .retCond .c
  | .reti => .reti | .jpCA16 nn => .jpCond .c nn | .callCA16 nn => .callCond .c nn
  | .sbcAD8 n => .alu .sbc (.imm n) | .rst18 => .rst 3 | .ldhIndA8A n => .storeA (.zeroPage n)
  | .popHl => .pop .hl | .ldIndCA => .storeA .zeroPageC | .pushHl => .push .hl | .andD8 n => .alu .and (.imm n)
  | .rst20 => .rst 4 | .addSpE8 e => .addSpE8 e | .jpHl => .jpHl | .ldIndA16A nn => .storeA (.abs nn)
  | .xorD8 n => .alu .xor (.imm n) | .rst28 => .rst 5 | .ldhAIndA8 n => .loadA (.zeroPage n)
  | .popAf => .pop .af | .ldAIndC => .loadA .zeroPageC | .di => .di | .pushAf => .push .af
  | .orD8 n => .alu .or (.imm n) | .rst30 => .rst 6 | .ldHlSpE8 e => .ldHlSpE8 e | .ldSpHl => .ldSpHl
  | .ldAIndA16 nn => .loadA (.abs nn) | .ei => .ei | .cpD8 n => .alu .cp (.imm n) | .rst38 => .rst 7
  | .rlcB => .shift .rlc (.reg .b) | .rlcC => .shift .rlc (.reg .c) | .rlcD => .shift .rlc (.reg .d)
  | .rlcE => .shift .rlc (.reg .e) | .rlcH => .shift .rlc (.reg .h) | .rlcL => .shift .rlc (.reg .l)
  | .rlcIndHl => .shift .rlc .indHl | .rlcA => .shift .rlc (.reg .a) | .rrcB => .shift .rrc (.reg .b)
  | .rrcC => .shift .rrc (.reg .c) | .rrcD => .shift .rrc (.reg .d) | .rrcE => .shift .rrc (.reg .e)
  | .rrcH => .shift .rrc (.reg .h) | .rrcL => .shift .rrc (.reg .l) | .rrcIndHl => .shift .rrc .indHl
  | .rrcA => .shift .rrc (.reg .a) | .rlB => .shift .rl (.reg .b) | .rlC => .shift .rl (.reg .c)
  | .rlD => .shift .rl (.reg .d) | .rlE => .shift .rl (.reg .e) | .rlH => .shift .rl (.reg .h)
  | .rlL => .shift .rl (.reg .l) | .rlIndHl => .shift .rl .indHl | .rlA => .shift .rl (.reg .a)
  | .rrB => .shift .rr (.reg .b) | .rrC => .shift .rr (.reg .c) | .rrD => .shift .rr (.reg .d)
  | .rrE => .shift .rr (.reg .e) | .rrH => .shift .rr (.reg .h) | .rrL => .shift .rr (.reg .l)
  | .rrIndHl => .shift .rr .indHl | .rrA => .shift .rr (.reg .a) | .slaB => .shift .sla (.reg .b)
  | .slaC => .shift .sla (.reg .c) | .slaD => .shift .sla (.reg .d) | .slaE => .shift .sla (.reg .e)
  | .slaH => .shift .sla (.reg .h) | .slaL => .shift .sla (.reg .l) | .slaIndHl => .shift .sla .indHl
  | .slaA => .shift .sla (.reg .a) | .sraB => .shift .sra (.reg .b) | .sraC => .shift .sra (.reg .c)
  | .sraD => .shift .sra (.reg .d) | .sraE => .shift .sra (.reg .e) | .sraH => .shift .sra (.reg .h)
  | .sraL => .shift .sra (.reg .l) | .sraIndHl => .shift .sra .indHl | .sraA => .shift .sra (.reg .a)
  | .swapB => .shift .swap (.reg .b) | .swapC => .shift .swap (.reg .c) | .swapD => .shift .swap (.reg .d)
  | .swapE => .shift .swap (.reg .e) | .swapH => .shift .swap (.reg .h) | .swapL => .shift .swap (.reg .l)
  | .swapIndHl => .shift .swap .indHl | .swapA => .shift .swap (.reg .a) | .srlB => .shift .srl (.reg .b)
  | .srlC => .shift .srl (.reg .c) | .srlD => .shift .srl (.reg .d) | .srlE => .shift .srl (.reg .e)
  | .srlH => .shift .srl (.reg .h) | .srlL => .shift .srl (.reg .l) | .srlIndHl => .shift .srl .indHl
  | .srlA => .shift .srl (.reg .a) | .bit0B => .bit 0 (.reg .b) | .bit0C => .bit 0 (.reg .c)
  | .bit0D => .bit 0 (.reg .d) | .bit0E => .bit 0 (.reg .e) | .bit0H => .bit 0 (.reg .h)
  | .bit0L => .bit 0 (.reg .l) | .bit0IndHl => .bit 0 .indHl | .bit0A => .bit 0 (.reg .a)
  | .bit1B => .bit 1 (.reg .b) | .bit1C => .bit 1 (.reg .c) | .bit1D => .bit 1 (.reg .d)
  | .bit1E => .bit 1 (.reg .e) | .bit1H => .bit 1 (.reg .h) | .bit1L => .bit 1 (.reg .l)
  | .bit1IndHl => .bit 1 .indHl | .bit1A => .bit 1 (.reg .a) | .bit2B => .bit 2 (.reg .b)
  | .bit2C => .bit 2 (.reg .c) | .bit2D => .bit 2 (.reg .d) | .bit2E => .bit 2 (.reg .e)
  | .bit2H => .bit 2 (.reg .h) | .bit2L => .bit 2 (.reg .l) | .bit2IndHl => .bit 2 .indHl
  | .bit2A => .bit 2 (.reg .a) | .bit3B => .bit 3 (.reg .b) | .bit3C => .bit 3 (.reg .c)
  | .bit3D => .bit 3 (.reg .d) | .bit3E => .bit 3 (.reg .e) | .bit3H => .bit 3 (.reg .h)
  | .bit3L => .bit 3 (.reg .l) | .bit3IndHl => .bit 3 .indHl | .bit3A => .bit 3 (.reg .a)
  | .bit4B => .bit 4 (.reg .b) | .bit4C => .bit 4 (.reg .c) | .bit4D => .bit 4 (.reg .d)
  | .bit4E => .bit 4 (.reg .e) | .bit4H => .bit 4 (.reg .h) | .bit4L => .bit 4 (.reg .l)
  | .bit4IndHl => .bit 4 .indHl | .bit4A => .bit 4 (.reg .a) | .bit5B => .bit 5 (.reg .b)
  | .bit5C => .bit 5 (.reg .c) | .bit5D => .bit 5 (.reg .d) | .bit5E => .bit 5 (.reg .e)
  | .bit5H => .bit 5 (.reg .h) | .bit5L => .bit 5 (.reg .l) | .bit5IndHl => .bit 5 .indHl
  | .bit5A => .bit 5 (.reg .a) | .bit6B => .bit 6 (.reg .b) | .bit6C => .bit 6 (.reg .c)
  | .bit6D => .bit 6 (.reg .d) | .bit6E => .bit 6 (.reg .e) | .bit6H => .bit 6 (.reg .h)
  | .bit6L => .bit 6 (.reg .l) | .bit6IndHl => .bit 6 .indHl | .bit6A => .bit 6 (.reg .a)
  | .bit7B => .bit 7 (.reg .b) | .bit7C => .bit 7 (.reg .c) | .bit7D => .bit 7 (.reg .d)
  | .bit7E => .bit 7 (.reg .e) | .bit7H => .bit 7 (.reg .h) | .bit7L => .bit 7 (.reg .l)
  | .bit7IndHl => .bit 7 .indHl | .bit7A => .bit 7 (.reg .a) | .res0B => .res 0 (.reg .b)
  | .res0C => .res 0 (.reg .c) | .res0D => .res 0 (.reg .d) | .res0E => .res 0 (.reg .e)
  | .res0H => .res 0 (.reg .h) | .res0L => .res 0 (.reg .l) | .res0IndHl => .res 0 .indHl
  | .res0A => .res 0 (.reg .a) | .res1B => .res 1 (.reg .b) | .res1C => .res 1 (.reg .c)
  | .res1D => .res 1 (.reg .d) | .res1E => .res 1 (.reg .e) | .res1H => .res 1 (.reg .h)
  | .res1L => .res 1 (.reg .l) | .res1IndHl => .res 1 .indHl | .res1A => .res 1 (.reg .a)
  | .res2B => .res 2 (.reg .b) | .res2C => .res 2 (.reg .c) | .res2D => .res 2 (.reg .d)
  | .res2E => .res 2 (.reg .e) | .res2H => .res 2 (.reg .h) | .res2L => .res 2 (.reg .l)
  | .res2IndHl => .res 2 .indHl | .res2A => .res 2 (.reg .a) | .res3B => .res 3 (.reg .b)
  | .res3C => .res 3 (.reg .c) | .res3D => .res 3 (.reg .d) | .res3E => .res 3 (.reg .e)
  | .res3H => .res 3 (.reg .h) | .res3L => .res 3 (.reg .l) | .res3IndHl => .res 3 .indHl
  | .res3A => .res 3 (.reg .a) | .res4B => .res 4 (.reg .b) | .res4C => .res 4 (.reg .c)
  | .res4D => .res 4 (.reg .d) | .res4E => .res 4 (.reg .e) | .res4H => .res 4 (.reg .h)
  | .res4L => .res 4 (.reg .l) | .res4IndHl => .res 4 .indHl | .res4A => .res 4 (.reg .a)
  | .res5B => .res 5 (.reg .b) | .res5C => .res 5 (.reg .c) | .res5D => .res 5 (.reg .d)
  | .res5E => .res 5 (.reg .e) | .res5H => .res 5 (.reg .h) | .res5L => .res 5 (.reg .l)
  | .res5IndHl => .res 5 .indHl | .res5A => .res 5 (.reg .a) | .res6B => .res 6 (.reg .b)
  | .res6C => .res 6 (.reg .c) | .res6D => .res 6 (.reg .d) | .res6E => .res 6 (.reg .e)
  | .res6H => .res 6 (.reg .h) | .res6L => .res 6 (.reg .l) | .res6IndHl => .res 6 .indHl
  | .res6A => .res 6 (.reg .a) | .res7B => .res 7 (.reg .b) | .res7C => .res 7 (.reg .c)
  | .res7D => .res 7 (.reg .d) | .res7E => .res 7 (.reg .e) | .res7H => .res 7 (.reg .h)
  | .res7L => .res 7 (.reg .l) | .res7IndHl => .res 7 .indHl | .res7A => .res 7 (.reg .a)
  | .set0B => .set 0 (.reg .b) | .set0C => .set 0 (.reg .c) | .set0D => .set 0 (.reg .d)
  | .set0E => .set 0 (.reg .e) | .set0H => .set 0 (.reg .h) | .set0L => .set 0 (.reg .l)
  | .set0IndHl => .set 0 .indHl | .set0A => .set 0 (.reg .a) | .set1B => .set 1 (.reg .b)
  | .set1C => .set 1 (.reg .c) | .set1D => .set 1 (.reg .d) | .set1E => .set 1 (.reg .e)
  | .set1H => .set 1 (.reg .h) | .set1L => .set 1 (.reg .l) | .set1IndHl => .set 1 .indHl
  | .set1A => .set 1 (.reg .a) | .set2B => .set 2 (.reg .b) | .set2C => .set 2 (.reg .c)
  | .set2D => .set 2 (.reg .d) | .set2E => .set 2 (.reg .e) | .set2H => .set 2 (.reg .h)
  | .set2L => .set 2 (.reg .l) | .set2IndHl => .set 2 .indHl | .set2A => .set 2 (.reg .a)
  | .set3B => .set 3 (.reg .b) | .set3C => .set 3 (.reg .c) | .set3D => .set 3 (.reg .d)
  | .set3E => .set 3 (.reg .e) | .set3H => .set 3 (.reg .h) | .set3L => .set 3 (.reg .l)
  | .set3IndHl => .set 3 .indHl | .set3A => .set 3 (.reg .a) | .set4B => .set 4 (.reg .b)
  | .set4C => .set 4 (.reg .c) | .set4D => .set 4 (.reg .d) | .set4E => .set 4 (.reg .e)
  | .set4H => .set 4 (.reg .h) | .set4L => .set 4 (.reg .l) | .set4IndHl => .set 4 .indHl
  | .set4A => .set 4 (.reg .a) | .set5B => .set 5 (.reg .b) | .set5C => .set 5 (.reg .c)
  | .set5D => .set 5 (.reg .d) | .set5E => .set 5 (.reg .e) | .set5H => .set 5 (.reg .h)
  | .set5L => .set 5 (.reg .l) | .set5IndHl => .set 5 .indHl | .set5A => .set 5 (.reg .a)
  | .set6B => .set 6 (.reg .b) | .set6C => .set 6 (.reg .c) | .set6D => .set 6 (.reg .d)
  | .set6E => .set 6 (.reg .e) | .set6H => .set 6 (.reg .h) | .set6L => .set 6 (.reg .l)
  | .set6IndHl => .set 6 .indHl | .set6A => .set 6 (.reg .a) | .set7B => .set 7 (.reg .b)
  | .set7C => .set 7 (.reg .c) | .set7D => .set 7 (.reg .d) | .set7E => .set 7 (.reg .e)
  | .set7H => .set 7 (.reg .h) | .set7L => .set 7 (.reg .l) | .set7IndHl => .set 7 .indHl
  | .set7A => .set 7 (.reg .a)

/-! ### What `exec` answers for a shape -/

variable (s : State)

theorem exec_alu (op : AluOp) (src : Src8) : exec (.ofAlu op src) s = .next (alu op src s) := by
  cases op <;> rcases src with r | _ | n <;> first | rfl | (cases r <;> rfl)

theorem exec_addHl (p : Pair) : exec (.ofAddHl p) s = .next (addHl p s) := by
  cases p <;> rfl

theorem exec_addSpE8 (e : Byte) : exec (.addSpE8 e) s = .next (addSp e s) := rfl

theorem exec_inc8 (k : Operand8) : exec (.ofInc8 k) s = .next (inc8 k s) := by
  rcases k with r | _ <;> first | rfl | (cases r <;> rfl)

theorem exec_dec8 (k : Operand8) : exec (.ofDec8 k) s = .next (dec8 k s) := by
  rcases k with r | _ <;> first | rfl | (cases r <;> rfl)

theorem exec_inc16 (p : Pair) : exec (.ofInc16 p) s = .next (inc16 p s) := by
  cases p <;> rfl

theorem exec_dec16 (p : Pair) : exec (.ofDec16 p) s = .next (dec16 p s) := by
  cases p <;> rfl

theorem exec_shift (op : ShiftOp) (k : Operand8) : exec (.ofShift op k) s = .next (shift op k s) := by
  cases op <;> rcases k with r | _ <;> first | rfl | (cases r <;> rfl)

theorem exec_rlca : exec (.rlca) s = .next (rotateA .rlc s) := rfl

theorem exec_rrca : exec (.rrca) s = .next (rotateA .rrc s) := rfl

theorem exec_rla : exec (.rla) s = .next (rotateA .rl s) := rfl

theorem exec_rra : exec (.rra) s = .next (rotateA .rr s) := rfl

theorem exec_bit (b : Fin 8) (k : Operand8) : exec (.ofBit b k) s = .next (bitTest b k s) := by
  fin_cases b <;> rcases k with r | _ <;> first | rfl | (cases r <;> rfl)

theorem exec_res (b : Fin 8) (k : Operand8) : exec (.ofRes b k) s = .next (bitReset b k s) := by
  fin_cases b <;> rcases k with r | _ <;> first | rfl | (cases r <;> rfl)

theorem exec_set (b : Fin 8) (k : Operand8) : exec (.ofSet b k) s = .next (bitSet b k s) := by
  fin_cases b <;> rcases k with r | _ <;> first | rfl | (cases r <;> rfl)

theorem exec_ldReg (r : Reg8) (src : Src8) : exec (.ofLdReg r src) s = .next (ldReg r src s) := by
  cases r <;> rcases src with q | _ | n <;> first | rfl | (cases q <;> rfl)

theorem exec_ldIndHl (r : Reg8) : exec (.ofLdIndHl r) s = .next (ldIndHl (.reg r) s) := by
  cases r <;> rfl

theorem exec_ldIndHlD8 (n : Byte) : exec (.ldIndHlD8 n) s = .next (ldIndHl (.imm n) s) := rfl

theorem exec_ldPair (p : Pair) (nn : Word) : exec (.ofLdPair p nn) s = .next (ldPair p nn s) := by
  cases p <;> rfl

theorem exec_storeA (m : AddrMode) : exec (.ofStoreA m) s = .next (storeA m s) := by
  cases m <;> rfl

theorem exec_loadA (m : AddrMode) : exec (.ofLoadA m) s = .next (loadA m s) := by
  cases m <;> rfl

theorem exec_ldIndA16Sp (nn : Word) : exec (.ldIndA16Sp nn) s = .next (storeSp nn s) := rfl

theorem exec_ldSpHl : exec (.ldSpHl) s = .next (ldSpFromHl s) := rfl

theorem exec_ldHlSpE8 (e : Byte) : exec (.ldHlSpE8 e) s = .next (ldHlFromSp e s) := rfl

theorem exec_push (p : StackPair) : exec (.ofPush p) s = .next (push p s) := by
  cases p <;> rfl

theorem exec_pop (p : StackPair) : exec (.ofPop p) s = .next (pop p s) := by
  cases p <;> rfl

theorem exec_jpA16 (nn : Word) : exec (.jpA16 nn) s = .next (s.jump nn) := rfl

theorem exec_jpHl : exec (.jpHl) s = .next (s.jump s.hl) := rfl

theorem exec_jrE8 (e : Byte) : exec (.jrE8 e) s = .next (s.jump (jrTarget e s)) := rfl

theorem exec_callA16 (nn : Word) : exec (.callA16 nn) s = .next (call nn s) := rfl

theorem exec_ret : exec (.ret) s = .next (popPc s) := rfl

theorem exec_reti : exec (.reti) s = .next { popPc s with ime := true } := rfl

theorem exec_jpCond (cc : Cond) (nn : Word) : exec (.ofJpCond cc nn) s = .next (jpCond cc nn s) := by
  cases cc <;> rfl

theorem exec_jrCond (cc : Cond) (e : Byte) : exec (.ofJrCond cc e) s = .next (jrCond cc e s) := by
  cases cc <;> rfl

theorem exec_callCond (cc : Cond) (nn : Word) : exec (.ofCallCond cc nn) s = .next (callCond cc nn s) := by
  cases cc <;> rfl

theorem exec_retCond (cc : Cond) : exec (.ofRetCond cc) s = .next (retCond cc s) := by
  cases cc <;> rfl

theorem exec_rst (y : Fin 8) : exec (.ofRst y) s = .next (rst y s) := by
  fin_cases y <;> rfl

theorem exec_nop : exec (.nop) s = .next (s.advance 1) := rfl

theorem exec_halt : exec (.halt) s = .next (s.advance 1) := rfl

theorem exec_stop (n : Byte) : exec (.stop n) s = .next (s.advance s.cfg.stopLength.bytes) := rfl

theorem exec_di : exec (.di) s = .next (({ s with ime := false }).advance 1) := rfl

theorem exec_ei : exec (.ei) s = .next (({ s with ime := true }).advance 1) := rfl

theorem exec_daa : exec (.daa) s = .next (daa s) := rfl

theorem exec_cpl : exec (.cpl) s = .next (cpl s) := rfl

theorem exec_scf : exec (.scf) s = .next ((s.setNhc false false true).advance 1) := rfl

theorem exec_ccf : exec (.ccf) s = .next ((s.setNhc false false (!s.flag .c)).advance 1) := rfl

theorem exec_illegal (op : Byte) : exec (.illegal op) s = execIllegal op s := rfl

theorem exec_prefixCb (cbop : Byte) : exec (.prefixCb cbop) s = execPrefixCb cbop s := rfl

end Sys2Proof.Machine
end

