-- ==== Sys2Proof/Laws/Ops.lean ====
section
/-! SUPPORT. What each shared operation does, said once: the whole next state as a record over the old one. -/

namespace Sys2Proof.Machine

variable (s : State)

/-! ### pc, SP and the stack -/

theorem trunc16_add (w : Word) (n : Nat) : trunc16 (w.toNat + n) = w + BitVec.ofNat 16 n := by
  rw [trunc16, BitVec.ofInt_add, BitVec.ofInt_natCast, BitVec.ofInt_natCast, BitVec.ofNat_toNat, BitVec.setWidth_eq]

theorem trunc16_sub_one (w : Word) : trunc16 (w.toNat - 1) = w - 1 := by
  rw [trunc16, Int.sub_eq_add_neg, BitVec.ofInt_add, BitVec.ofInt_natCast, BitVec.ofNat_toNat, BitVec.setWidth_eq,
    BitVec.sub_eq_add_neg]
  rfl

theorem State.nextPc_eq (n : Nat) : s.nextPc n = s.pc + BitVec.ofNat 16 n := trunc16_add s.pc n

theorem State.moveSp_up : s.moveSp 1 = { s with sp := s.sp + 1 } := by
  exact congrArg (fun w => { s with sp := w }) (trunc16_add s.sp 1)

theorem State.moveSp_down : s.moveSp (-1) = { s with sp := s.sp - 1 } := by
  rw [State.moveSp, ← Int.sub_eq_add_neg, trunc16_sub_one]

theorem word_sub_one_one (w : Word) : w - 1 - 1 = w - 2 := by
  rw [BitVec.sub_sub]; rfl

/-- A push is two writes below SP (43_load_store.md rule R203). -/
theorem State.push16_eq (v : Word) : s.push16 v = pushed s v := by
  simp only [State.push16, State.pushByte, State.moveSp_down, State.write, pushed, word_sub_one_one]

/-- A pop reads the word on top of the stack and moves SP up by 2 (R204). -/
theorem State.pop16_eq : s.pop16 = (stackTop s, { s with sp := s.sp + 2 }) := by
  simp only [State.pop16, State.moveSp_up, stackTop, BitVec.add_assoc]
  rfl

/-! ### Arithmetic and logic -/

theorem alu_eq (op : AluOp) (src : Src8) :
    alu op src s =
      let r := aluFn op s.a (s.getSrc src) (s.flag .c)
      { s with
        a := if op = .cp then s.a else r.res
        f := flagByte r.z r.n r.h r.c
        pc := s.nextPc (srcWidth src) } := by
  by_cases hop : op = .cp <;> apply State.ext <;> simp [alu, hop, State.nextPc]

theorem addHl_eq (p : Pair) :
    addHl p s =
      let r := add16 s.hl (s.getPair p)
      { s.setHl r.res with f := flagByte (s.flag .z) false r.h r.c, pc := s.nextPc 1 } := by
  apply State.ext <;> simp [addHl, State.nextPc]

theorem addSp_eq (e : Byte) :
    addSp e s =
      let r := spadd s.sp e
      { s with sp := r.res, f := flagByte false false r.h r.c, pc := s.nextPc 2 } := by
  apply State.ext <;> simp [addSp, State.nextPc]

/-! ### INC and DEC -/

theorem inc8_eq (k : Operand8) :
    inc8 k s =
      let res := trunc8 ((s.get8 k).toNat + 1)
      { s.set8 k res with
        f := flagByte (res == 0) false (decide (lowNibble (s.get8 k) = 0xF)) (s.flag .c), pc := s.nextPc 1 } := by
  apply State.ext <;> simp [inc8, State.nextPc]

theorem dec8_eq (k : Operand8) :
    dec8 k s =
      let res := trunc8 ((s.get8 k).toNat - 1)
      { s.set8 k res with
        f := flagByte (res == 0) true (decide (lowNibble (s.get8 k) = 0x0)) (s.flag .c), pc := s.nextPc 1 } := by
  apply State.ext <;> simp [dec8, State.nextPc]

theorem inc16_eq (p : Pair) :
    inc16 p s = { s.setPair p (s.getPair p + 1) with pc := s.nextPc 1 } := by
  rw [inc16, show ((s.getPair p).toNat + 1 : Int) = (s.getPair p).toNat + (1 : Nat) from rfl, trunc16_add]
  cases p <;> rfl

theorem dec16_eq (p : Pair) :
    dec16 p s = { s.setPair p (s.getPair p - 1) with pc := s.nextPc 1 } := by
  rw [dec16, trunc16_sub_one]
  cases p <;> rfl

/-! ### Shifts and bits -/

theorem shift_eq (op : ShiftOp) (k : Operand8) :
    shift op k s =
      let r := shiftFn op (s.get8 k) (s.flag .c)
      { s.set8 k r.1 with f := flagByte (r.1 == 0) false false r.2, pc := s.nextPc 2 } := by
  apply State.ext <;> simp [shift, State.nextPc]

theorem rotateA_eq (op : ShiftOp) :
    rotateA op s =
      let r := shiftFn op s.a (s.flag .c)
      { s with a := r.1, f := flagByte false false false r.2, pc := s.nextPc 1 } := by
  apply State.ext <;> simp [rotateA, State.nextPc]

theorem bitTest_eq (b : Fin 8) (k : Operand8) :
    bitTest b k s =
      { s with f := flagByte (!(s.get8 k).getLsbD b) false true (s.flag .c), pc := s.nextPc 2 } := by
  apply State.ext <;> simp [bitTest, State.nextPc]

/-! ### Loads and stores -/

theorem storeA_eq (m : AddrMode) :
    storeA m s =
      { s.write (s.effAddr m) s.a with
        h := (s.postModify m).h, l := (s.postModify m).l, pc := s.nextPc (modeWidth m) } := by
  cases m <;> rfl

theorem loadA_eq (m : AddrMode) :
    loadA m s =
      { s.postModify m with a := s.read (s.effAddr m), pc := s.nextPc (modeWidth m) } := by
  cases m <;> rfl

theorem ldHlFromSp_eq (e : Byte) :
    ldHlFromSp e s =
      let r := spadd s.sp e
      { s.setHl r.res with f := flagByte false false r.h r.c, pc := s.nextPc 2 } := by
  apply State.ext <;> simp [ldHlFromSp, State.nextPc]

theorem push_eq (p : StackPair) :
    push p s = { pushed s (s.getStackPair p) with pc := s.nextPc 1 } := by
  rw [push, State.push16_eq]; rfl

theorem pop_eq (p : StackPair) :
    pop p s = { ({ s with sp := s.sp + 2 } : State).setStackPair p (stackTop s) with pc := s.nextPc 1 } := by
  rw [pop, State.pop16_eq]
  cases p <;> rfl

/-! ### Control flow -/

theorem call_eq (nn : Word) : call nn s = { pushed s (s.nextPc 3) with pc := nn } := by
  rw [call, State.push16_eq]; rfl

theorem popPc_eq : popPc s = { s with sp := s.sp + 2, pc := stackTop s } := by
  rw [popPc, State.pop16_eq]; rfl

theorem rst_eq (y : Fin 8) :
    rst y s = { pushed s (s.nextPc 1) with pc := BitVec.ofNat 16 (8 * y.val) } := by
  rw [rst, State.push16_eq, Nat.mul_comm 8]; rfl

/-! ### Flags -/

theorem daa_eq :
    daa s =
      let r := daaFn s.a (s.flag .n) (s.flag .h) (s.flag .c)
      { s with a := r.1, f := flagByte (r.1 == 0) (s.flag .n) false r.2, pc := s.nextPc 1 } := by
  apply State.ext <;> simp [daa, State.nextPc, State.f_setFlag, State.flag_eq]

theorem cpl_eq :
    cpl s = { s with a := ~~~s.a, f := flagByte (s.flag .z) true true (s.flag .c), pc := s.nextPc 1 } := by
  apply State.ext <;> simp [cpl, State.nextPc, State.f_setFlag, State.flag_eq]

end Sys2Proof.Machine
end

