-- ==== Sys2Proof/Laws/PerInstr.lean ====
section
/-! SUPPORT. Statements about instructions as syntax, one lemma per constructor. -/

namespace Sys2Proof

/-- The bytes the encoder writes are as many as the table's row for the opcode byte has (30_encoding.md rule R83). -/
def Laws.EncodeWidth.Statement (i : Instr) : Prop :=
  (encode i).length = tableLength ((encode i).headD 0) ∨ i.wf = false

theorem Laws.EncodeWidth.nop : Laws.EncodeWidth.Statement .nop := .inl rfl
theorem Laws.EncodeWidth.ldBcD16 (nn : Word) : Laws.EncodeWidth.Statement (.ldBcD16 nn) := .inl (show 3 = tableLength 0x01 from rfl)
theorem Laws.EncodeWidth.ldIndBcA : Laws.EncodeWidth.Statement .ldIndBcA := .inl rfl
theorem Laws.EncodeWidth.incBc : Laws.EncodeWidth.Statement .incBc := .inl rfl
theorem Laws.EncodeWidth.incB : Laws.EncodeWidth.Statement .incB := .inl rfl
theorem Laws.EncodeWidth.decB : Laws.EncodeWidth.Statement .decB := .inl rfl
theorem Laws.EncodeWidth.ldBD8 (n : Byte) : Laws.EncodeWidth.Statement (.ldBD8 n) := .inl (show 2 = tableLength 0x06 from rfl)
theorem Laws.EncodeWidth.rlca : Laws.EncodeWidth.Statement .rlca := .inl rfl
theorem Laws.EncodeWidth.ldIndA16Sp (nn : Word) : Laws.EncodeWidth.Statement (.ldIndA16Sp nn) := .inl (show 3 = tableLength 0x08 from rfl)
theorem Laws.EncodeWidth.addHlBc : Laws.EncodeWidth.Statement .addHlBc := .inl rfl
theorem Laws.EncodeWidth.ldAIndBc : Laws.EncodeWidth.Statement .ldAIndBc := .inl rfl
theorem Laws.EncodeWidth.decBc : Laws.EncodeWidth.Statement .decBc := .inl rfl
theorem Laws.EncodeWidth.incC : Laws.EncodeWidth.Statement .incC := .inl rfl
theorem Laws.EncodeWidth.decC : Laws.EncodeWidth.Statement .decC := .inl rfl
theorem Laws.EncodeWidth.ldCD8 (n : Byte) : Laws.EncodeWidth.Statement (.ldCD8 n) := .inl (show 2 = tableLength 0x0E from rfl)
theorem Laws.EncodeWidth.rrca : Laws.EncodeWidth.Statement .rrca := .inl rfl
theorem Laws.EncodeWidth.stop (n : Byte) : Laws.EncodeWidth.Statement (.stop n) := .inl (show 2 = tableLength 0x10 from rfl)
theorem Laws.EncodeWidth.ldDeD16 (nn : Word) : Laws.EncodeWidth.Statement (.ldDeD16 nn) := .inl (show 3 = tableLength 0x11 from rfl)
theorem Laws.EncodeWidth.ldIndDeA : Laws.EncodeWidth.Statement .ldIndDeA := .inl rfl
theorem Laws.EncodeWidth.incDe : Laws.EncodeWidth.Statement .incDe := .inl rfl
theorem Laws.EncodeWidth.incD : Laws.EncodeWidth.Statement .incD := .inl rfl
theorem Laws.EncodeWidth.decD : Laws.EncodeWidth.Statement .decD := .inl rfl
theorem Laws.EncodeWidth.ldDD8 (n : Byte) : Laws.EncodeWidth.Statement (.ldDD8 n) := .inl (show 2 = tableLength 0x16 from rfl)
theorem Laws.EncodeWidth.rla : Laws.EncodeWidth.Statement .rla := .inl rfl
theorem Laws.EncodeWidth.jrE8 (e : Byte) : Laws.EncodeWidth.Statement (.jrE8 e) := .inl (show 2 = tableLength 0x18 from rfl)
theorem Laws.EncodeWidth.addHlDe : Laws.EncodeWidth.Statement .addHlDe := .inl rfl
theorem Laws.EncodeWidth.ldAIndDe : Laws.EncodeWidth.Statement .ldAIndDe := .inl rfl
theorem Laws.EncodeWidth.decDe : Laws.EncodeWidth.Statement .decDe := .inl rfl
theorem Laws.EncodeWidth.incE : Laws.EncodeWidth.Statement .incE := .inl rfl
theorem Laws.EncodeWidth.decE : Laws.EncodeWidth.Statement .decE := .inl rfl
theorem Laws.EncodeWidth.ldED8 (n : Byte) : Laws.EncodeWidth.Statement (.ldED8 n) := .inl (show 2 = tableLength 0x1E from rfl)
theorem Laws.EncodeWidth.rra : Laws.EncodeWidth.Statement .rra := .inl rfl
theorem Laws.EncodeWidth.jrNzE8 (e : Byte) : Laws.EncodeWidth.Statement (.jrNzE8 e) := .inl (show 2 = tableLength 0x20 from rfl)
theorem Laws.EncodeWidth.ldHlD16 (nn : Word) : Laws.EncodeWidth.Statement (.ldHlD16 nn) := .inl (show 3 = tableLength 0x21 from rfl)
theorem Laws.EncodeWidth.ldHliA : Laws.EncodeWidth.Statement .ldHliA := .inl rfl
theorem Laws.EncodeWidth.incHl : Laws.EncodeWidth.Statement .incHl := .inl rfl
theorem Laws.EncodeWidth.incH : Laws.EncodeWidth.Statement .incH := .inl rfl
theorem Laws.EncodeWidth.decH : Laws.EncodeWidth.Statement .decH := .inl rfl
theorem Laws.EncodeWidth.ldHD8 (n : Byte) : Laws.EncodeWidth.Statement (.ldHD8 n) := .inl (show 2 = tableLength 0x26 from rfl)
theorem Laws.EncodeWidth.daa : Laws.EncodeWidth.Statement .daa := .inl rfl
theorem Laws.EncodeWidth.jrZE8 (e : Byte) : Laws.EncodeWidth.Statement (.jrZE8 e) := .inl (show 2 = tableLength 0x28 from rfl)
theorem Laws.EncodeWidth.addHlHl : Laws.EncodeWidth.Statement .addHlHl := .inl rfl
theorem Laws.EncodeWidth.ldAHli : Laws.EncodeWidth.Statement .ldAHli := .inl rfl
theorem Laws.EncodeWidth.decHl : Laws.EncodeWidth.Statement .decHl := .inl rfl
theorem Laws.EncodeWidth.incL : Laws.EncodeWidth.Statement .incL := .inl rfl
theorem Laws.EncodeWidth.decL : Laws.EncodeWidth.Statement .decL := .inl rfl
theorem Laws.EncodeWidth.ldLD8 (n : Byte) : Laws.EncodeWidth.Statement (.ldLD8 n) := .inl (show 2 = tableLength 0x2E from rfl)
theorem Laws.EncodeWidth.cpl : Laws.EncodeWidth.Statement .cpl := .inl rfl
theorem Laws.EncodeWidth.jrNcE8 (e : Byte) : Laws.EncodeWidth.Statement (.jrNcE8 e) := .inl (show 2 = tableLength 0x30 from rfl)
theorem Laws.EncodeWidth.ldSpD16 (nn : Word) : Laws.EncodeWidth.Statement (.ldSpD16 nn) := .inl (show 3 = tableLength 0x31 from rfl)
theorem Laws.EncodeWidth.ldHldA : Laws.EncodeWidth.Statement .ldHldA := .inl rfl
theorem Laws.EncodeWidth.incSp : Laws.EncodeWidth.Statement .incSp := .inl rfl
theorem Laws.EncodeWidth.incIndHl : Laws.EncodeWidth.Statement .incIndHl := .inl rfl
theorem Laws.EncodeWidth.decIndHl : Laws.EncodeWidth.Statement .decIndHl := .inl rfl
theorem Laws.EncodeWidth.ldIndHlD8 (n : Byte) : Laws.EncodeWidth.Statement (.ldIndHlD8 n) := .inl (show 2 = tableLength 0x36 from rfl)
theorem Laws.EncodeWidth.scf : Laws.EncodeWidth.Statement .scf := .inl rfl
theorem Laws.EncodeWidth.jrCE8 (e : Byte) : Laws.EncodeWidth.Statement (.jrCE8 e) := .inl (show 2 = tableLength 0x38 from rfl)
theorem Laws.EncodeWidth.addHlSp : Laws.EncodeWidth.Statement .addHlSp := .inl rfl
theorem Laws.EncodeWidth.ldAHld : Laws.EncodeWidth.Statement .ldAHld := .inl rfl
theorem Laws.EncodeWidth.decSp : Laws.EncodeWidth.Statement .decSp := .inl rfl
theorem Laws.EncodeWidth.incA : Laws.EncodeWidth.Statement .incA := .inl rfl
theorem Laws.EncodeWidth.decA : Laws.EncodeWidth.Statement .decA := .inl rfl
theorem Laws.EncodeWidth.ldAD8 (n : Byte) : Laws.EncodeWidth.Statement (.ldAD8 n) := .inl (show 2 = tableLength 0x3E from rfl)
theorem Laws.EncodeWidth.ccf : Laws.EncodeWidth.Statement .ccf := .inl rfl
theorem Laws.EncodeWidth.ldBB : Laws.EncodeWidth.Statement .ldBB := .inl rfl
theorem Laws.EncodeWidth.ldBC : Laws.EncodeWidth.Statement .ldBC := .inl rfl
theorem Laws.EncodeWidth.ldBD : Laws.EncodeWidth.Statement .ldBD := .inl rfl
theorem Laws.EncodeWidth.ldBE : Laws.EncodeWidth.Statement .ldBE := .inl rfl
theorem Laws.EncodeWidth.ldBH : Laws.EncodeWidth.Statement .ldBH := .inl rfl
theorem Laws.EncodeWidth.ldBL : Laws.EncodeWidth.Statement .ldBL := .inl rfl
theorem Laws.EncodeWidth.ldBIndHl : Laws.EncodeWidth.Statement .ldBIndHl := .inl rfl
theorem Laws.EncodeWidth.ldBA : Laws.EncodeWidth.Statement .ldBA := .inl rfl
theorem Laws.EncodeWidth.ldCB : Laws.EncodeWidth.Statement .ldCB := .inl rfl
theorem Laws.EncodeWidth.ldCC : Laws.EncodeWidth.Statement .ldCC := .inl rfl
theorem Laws.EncodeWidth.ldCD : Laws.EncodeWidth.Statement .ldCD := .inl rfl
theorem Laws.EncodeWidth.ldCE : Laws.EncodeWidth.Statement .ldCE := .inl rfl
theorem Laws.EncodeWidth.ldCH : Laws.EncodeWidth.Statement .ldCH := .inl rfl
theorem Laws.EncodeWidth.ldCL : Laws.EncodeWidth.Statement .ldCL := .inl rfl
theorem Laws.EncodeWidth.ldCIndHl : Laws.EncodeWidth.Statement .ldCIndHl := .inl rfl
theorem Laws.EncodeWidth.ldCA : Laws.EncodeWidth.Statement .ldCA := .inl rfl
theorem Laws.EncodeWidth.ldDB : Laws.EncodeWidth.Statement .ldDB := .inl rfl
theorem Laws.EncodeWidth.ldDC : Laws.EncodeWidth.Statement .ldDC := .inl rfl
theorem Laws.EncodeWidth.ldDD : Laws.EncodeWidth.Statement .ldDD := .inl rfl
theorem Laws.EncodeWidth.ldDE : Laws.EncodeWidth.Statement .ldDE := .inl rfl
theorem Laws.EncodeWidth.ldDH : Laws.EncodeWidth.Statement .ldDH := .inl rfl
theorem Laws.EncodeWidth.ldDL : Laws.EncodeWidth.Statement .ldDL := .inl rfl
theorem Laws.EncodeWidth.ldDIndHl : Laws.EncodeWidth.Statement .ldDIndHl := .inl rfl
theorem Laws.EncodeWidth.ldDA : Laws.EncodeWidth.Statement .ldDA := .inl rfl
theorem Laws.EncodeWidth.ldEB : Laws.EncodeWidth.Statement .ldEB := .inl rfl
theorem Laws.EncodeWidth.ldEC : Laws.EncodeWidth.Statement .ldEC := .inl rfl
theorem Laws.EncodeWidth.ldED : Laws.EncodeWidth.Statement .ldED := .inl rfl
theorem Laws.EncodeWidth.ldEE : Laws.EncodeWidth.Statement .ldEE := .inl rfl
theorem Laws.EncodeWidth.ldEH : Laws.EncodeWidth.Statement .ldEH := .inl rfl
theorem Laws.EncodeWidth.ldEL : Laws.EncodeWidth.Statement .ldEL := .inl rfl
theorem Laws.EncodeWidth.ldEIndHl : Laws.EncodeWidth.Statement .ldEIndHl := .inl rfl
theorem Laws.EncodeWidth.ldEA : Laws.EncodeWidth.Statement .ldEA := .inl rfl
theorem Laws.EncodeWidth.ldHB : Laws.EncodeWidth.Statement .ldHB := .inl rfl
theorem Laws.EncodeWidth.ldHC : Laws.EncodeWidth.Statement .ldHC := .inl rfl
theorem Laws.EncodeWidth.ldHD : Laws.EncodeWidth.Statement .ldHD := .inl rfl
theorem Laws.EncodeWidth.ldHE : Laws.EncodeWidth.Statement .ldHE := .inl rfl
theorem Laws.EncodeWidth.ldHH : Laws.EncodeWidth.Statement .ldHH := .inl rfl
theorem Laws.EncodeWidth.ldHL : Laws.EncodeWidth.Statement .ldHL := .inl rfl
theorem Laws.EncodeWidth.ldHIndHl : Laws.EncodeWidth.Statement .ldHIndHl := .inl rfl
theorem Laws.EncodeWidth.ldHA : Laws.EncodeWidth.Statement .ldHA := .inl rfl
theorem Laws.EncodeWidth.ldLB : Laws.EncodeWidth.Statement .ldLB := .inl rfl
theorem Laws.EncodeWidth.ldLC : Laws.EncodeWidth.Statement .ldLC := .inl rfl
theorem Laws.EncodeWidth.ldLD : Laws.EncodeWidth.Statement .ldLD := .inl rfl
theorem Laws.EncodeWidth.ldLE : Laws.EncodeWidth.Statement .ldLE := .inl rfl
theorem Laws.EncodeWidth.ldLH : Laws.EncodeWidth.Statement .ldLH := .inl rfl
theorem Laws.EncodeWidth.ldLL : Laws.EncodeWidth.Statement .ldLL := .inl rfl
theorem Laws.EncodeWidth.ldLIndHl : Laws.EncodeWidth.Statement .ldLIndHl := .inl rfl
theorem Laws.EncodeWidth.ldLA : Laws.EncodeWidth.Statement .ldLA := .inl rfl
theorem Laws.EncodeWidth.ldIndHlB : Laws.EncodeWidth.Statement .ldIndHlB := .inl rfl
theorem Laws.EncodeWidth.ldIndHlC : Laws.EncodeWidth.Statement .ldIndHlC := .inl rfl
theorem Laws.EncodeWidth.ldIndHlD : Laws.EncodeWidth.Statement .ldIndHlD := .inl rfl
theorem Laws.EncodeWidth.ldIndHlE : Laws.EncodeWidth.Statement .ldIndHlE := .inl rfl
theorem Laws.EncodeWidth.ldIndHlH : Laws.EncodeWidth.Statement .ldIndHlH := .inl rfl
theorem Laws.EncodeWidth.ldIndHlL : Laws.EncodeWidth.Statement .ldIndHlL := .inl rfl
theorem Laws.EncodeWidth.halt : Laws.EncodeWidth.Statement .halt := .inl rfl
theorem Laws.EncodeWidth.ldIndHlA : Laws.EncodeWidth.Statement .ldIndHlA := .inl rfl
theorem Laws.EncodeWidth.ldAB : Laws.EncodeWidth.Statement .ldAB := .inl rfl
theorem Laws.EncodeWidth.ldAC : Laws.EncodeWidth.Statement .ldAC := .inl rfl
theorem Laws.EncodeWidth.ldAD : Laws.EncodeWidth.Statement .ldAD := .inl rfl
theorem Laws.EncodeWidth.ldAE : Laws.EncodeWidth.Statement .ldAE := .inl rfl
theorem Laws.EncodeWidth.ldAH : Laws.EncodeWidth.Statement .ldAH := .inl rfl
theorem Laws.EncodeWidth.ldAL : Laws.EncodeWidth.Statement .ldAL := .inl rfl
theorem Laws.EncodeWidth.ldAIndHl : Laws.EncodeWidth.Statement .ldAIndHl := .inl rfl
theorem Laws.EncodeWidth.ldAA : Laws.EncodeWidth.Statement .ldAA := .inl rfl
theorem Laws.EncodeWidth.addAB : Laws.EncodeWidth.Statement .addAB := .inl rfl
theorem Laws.EncodeWidth.addAC : Laws.EncodeWidth.Statement .addAC := .inl rfl
theorem Laws.EncodeWidth.addAD : Laws.EncodeWidth.Statement .addAD := .inl rfl
theorem Laws.EncodeWidth.addAE : Laws.EncodeWidth.Statement .addAE := .inl rfl
theorem Laws.EncodeWidth.addAH : Laws.EncodeWidth.Statement .addAH := .inl rfl
theorem Laws.EncodeWidth.addAL : Laws.EncodeWidth.Statement .addAL := .inl rfl
theorem Laws.EncodeWidth.addAIndHl : Laws.EncodeWidth.Statement .addAIndHl := .inl rfl
theorem Laws.EncodeWidth.addAA : Laws.EncodeWidth.Statement .addAA := .inl rfl
theorem Laws.EncodeWidth.adcAB : Laws.EncodeWidth.Statement .adcAB := .inl rfl
theorem Laws.EncodeWidth.adcAC : Laws.EncodeWidth.Statement .adcAC := .inl rfl
theorem Laws.EncodeWidth.adcAD : Laws.EncodeWidth.Statement .adcAD := .inl rfl
theorem Laws.EncodeWidth.adcAE : Laws.EncodeWidth.Statement .adcAE := .inl rfl
theorem Laws.EncodeWidth.adcAH : Laws.EncodeWidth.Statement .adcAH := .inl rfl
theorem Laws.EncodeWidth.adcAL : Laws.EncodeWidth.Statement .adcAL := .inl rfl
theorem Laws.EncodeWidth.adcAIndHl : Laws.EncodeWidth.Statement .adcAIndHl := .inl rfl
theorem Laws.EncodeWidth.adcAA : Laws.EncodeWidth.Statement .adcAA := .inl rfl
theorem Laws.EncodeWidth.subB : Laws.EncodeWidth.Statement .subB := .inl rfl
theorem Laws.EncodeWidth.subC : Laws.EncodeWidth.Statement .subC := .inl rfl
theorem Laws.EncodeWidth.subD : Laws.EncodeWidth.Statement .subD := .inl rfl
theorem Laws.EncodeWidth.subE : Laws.EncodeWidth.Statement .subE := .inl rfl
theorem Laws.EncodeWidth.subH : Laws.EncodeWidth.Statement .subH := .inl rfl
theorem Laws.EncodeWidth.subL : Laws.EncodeWidth.Statement .subL := .inl rfl
theorem Laws.EncodeWidth.subIndHl : Laws.EncodeWidth.Statement .subIndHl := .inl rfl
theorem Laws.EncodeWidth.subA : Laws.EncodeWidth.Statement .subA := .inl rfl
theorem Laws.EncodeWidth.sbcAB : Laws.EncodeWidth.Statement .sbcAB := .inl rfl
theorem Laws.EncodeWidth.sbcAC : Laws.EncodeWidth.Statement .sbcAC := .inl rfl
theorem Laws.EncodeWidth.sbcAD : Laws.EncodeWidth.Statement .sbcAD := .inl rfl
theorem Laws.EncodeWidth.sbcAE : Laws.EncodeWidth.Statement .sbcAE := .inl rfl
theorem Laws.EncodeWidth.sbcAH : Laws.EncodeWidth.Statement .sbcAH := .inl rfl
theorem Laws.EncodeWidth.sbcAL : Laws.EncodeWidth.Statement .sbcAL := .inl rfl
theorem Laws.EncodeWidth.sbcAIndHl : Laws.EncodeWidth.Statement .sbcAIndHl := .inl rfl
theorem Laws.EncodeWidth.sbcAA : Laws.EncodeWidth.Statement .sbcAA := .inl rfl
theorem Laws.EncodeWidth.andB : Laws.EncodeWidth.Statement .andB := .inl rfl
theorem Laws.EncodeWidth.andC : Laws.EncodeWidth.Statement .andC := .inl rfl
theorem Laws.EncodeWidth.andD : Laws.EncodeWidth.Statement .andD := .inl rfl
theorem Laws.EncodeWidth.andE : Laws.EncodeWidth.Statement .andE := .inl rfl
theorem Laws.EncodeWidth.andH : Laws.EncodeWidth.Statement .andH := .inl rfl
theorem Laws.EncodeWidth.andL : Laws.EncodeWidth.Statement .andL := .inl rfl
theorem Laws.EncodeWidth.andIndHl : Laws.EncodeWidth.Statement .andIndHl := .inl rfl
theorem Laws.EncodeWidth.andA : Laws.EncodeWidth.Statement .andA := .inl rfl
theorem Laws.EncodeWidth.xorB : Laws.EncodeWidth.Statement .xorB := .inl rfl
theorem Laws.EncodeWidth.xorC : Laws.EncodeWidth.Statement .xorC := .inl rfl
theorem Laws.EncodeWidth.xorD : Laws.EncodeWidth.Statement .xorD := .inl rfl
theorem Laws.EncodeWidth.xorE : Laws.EncodeWidth.Statement .xorE := .inl rfl
theorem Laws.EncodeWidth.xorH : Laws.EncodeWidth.Statement .xorH := .inl rfl
theorem Laws.EncodeWidth.xorL : Laws.EncodeWidth.Statement .xorL := .inl rfl
theorem Laws.EncodeWidth.xorIndHl : Laws.EncodeWidth.Statement .xorIndHl := .inl rfl
theorem Laws.EncodeWidth.xorA : Laws.EncodeWidth.Statement .xorA := .inl rfl
theorem Laws.EncodeWidth.orB : Laws.EncodeWidth.Statement .orB := .inl rfl
theorem Laws.EncodeWidth.orC : Laws.EncodeWidth.Statement .orC := .inl rfl
theorem Laws.EncodeWidth.orD : Laws.EncodeWidth.Statement .orD := .inl rfl
theorem Laws.EncodeWidth.orE : Laws.EncodeWidth.Statement .orE := .inl rfl
theorem Laws.EncodeWidth.orH : Laws.EncodeWidth.Statement .orH := .inl rfl
theorem Laws.EncodeWidth.orL : Laws.EncodeWidth.Statement .orL := .inl rfl
theorem Laws.EncodeWidth.orIndHl : Laws.EncodeWidth.Statement .orIndHl := .inl rfl
theorem Laws.EncodeWidth.orA : Laws.EncodeWidth.Statement .orA := .inl rfl
theorem Laws.EncodeWidth.cpB : Laws.EncodeWidth.Statement .cpB := .inl rfl
theorem Laws.EncodeWidth.cpC : Laws.EncodeWidth.Statement .cpC := .inl rfl
theorem Laws.EncodeWidth.cpD : Laws.EncodeWidth.Statement .cpD := .inl rfl
theorem Laws.EncodeWidth.cpE : Laws.EncodeWidth.Statement .cpE := .inl rfl
theorem Laws.EncodeWidth.cpH : Laws.EncodeWidth.Statement .cpH := .inl rfl
theorem Laws.EncodeWidth.cpL : Laws.EncodeWidth.Statement .cpL := .inl rfl
theorem Laws.EncodeWidth.cpIndHl : Laws.EncodeWidth.Statement .cpIndHl := .inl rfl
theorem Laws.EncodeWidth.cpA : Laws.EncodeWidth.Statement .cpA := .inl rfl
theorem Laws.EncodeWidth.retNz : Laws.EncodeWidth.Statement .retNz := .inl rfl
theorem Laws.EncodeWidth.popBc : Laws.EncodeWidth.Statement .popBc := .inl rfl
theorem Laws.EncodeWidth.jpNzA16 (nn : Word) : Laws.EncodeWidth.Statement (.jpNzA16 nn) := .inl (show 3 = tableLength 0xC2 from rfl)
theorem Laws.EncodeWidth.jpA16 (nn : Word) : Laws.EncodeWidth.Statement (.jpA16 nn) := .inl (show 3 = tableLength 0xC3 from rfl)
theorem Laws.EncodeWidth.callNzA16 (nn : Word) : Laws.EncodeWidth.Statement (.callNzA16 nn) := .inl (show 3 = tableLength 0xC4 from rfl)
theorem Laws.EncodeWidth.pushBc : Laws.EncodeWidth.Statement .pushBc := .inl rfl
theorem Laws.EncodeWidth.addAD8 (n : Byte) : Laws.EncodeWidth.Statement (.addAD8 n) := .inl (show 2 = tableLength 0xC6 from rfl)
theorem Laws.EncodeWidth.rst00 : Laws.EncodeWidth.Statement .rst00 := .inl rfl
theorem Laws.EncodeWidth.retZ : Laws.EncodeWidth.Statement .retZ := .inl rfl
theorem Laws.EncodeWidth.ret : Laws.EncodeWidth.Statement .ret := .inl rfl
theorem Laws.EncodeWidth.jpZA16 (nn : Word) : Laws.EncodeWidth.Statement (.jpZA16 nn) := .inl (show 3 = tableLength 0xCA from rfl)
theorem Laws.EncodeWidth.prefixCb (cbop : Byte) : Laws.EncodeWidth.Statement (.prefixCb cbop) := .inr rfl
theorem Laws.EncodeWidth.callZA16 (nn : Word) : Laws.EncodeWidth.Statement (.callZA16 nn) := .inl (show 3 = tableLength 0xCC from rfl)
theorem Laws.EncodeWidth.callA16 (nn : Word) : Laws.EncodeWidth.Statement (.callA16 nn) := .inl (show 3 = tableLength 0xCD from rfl)
theorem Laws.EncodeWidth.adcAD8 (n : Byte) : Laws.EncodeWidth.Statement (.adcAD8 n) := .inl (show 2 = tableLength 0xCE from rfl)
theorem Laws.EncodeWidth.rst08 : Laws.EncodeWidth.Statement .rst08 := .inl rfl
theorem Laws.EncodeWidth.retNc : Laws.EncodeWidth.Statement .retNc := .inl rfl
theorem Laws.EncodeWidth.popDe : Laws.EncodeWidth.Statement .popDe := .inl rfl
theorem Laws.EncodeWidth.jpNcA16 (nn : Word) : Laws.EncodeWidth.Statement (.jpNcA16 nn) := .inl (show 3 = tableLength 0xD2 from rfl)
theorem Laws.EncodeWidth.illegal (op : Byte) : Laws.EncodeWidth.Statement (.illegal op) := by
  revert op; unfold Laws.EncodeWidth.Statement; decide
theorem Laws.EncodeWidth.callNcA16 (nn : Word) : Laws.EncodeWidth.Statement (.callNcA16 nn) := .inl (show 3 = tableLength 0xD4 from rfl)
theorem Laws.EncodeWidth.pushDe : Laws.EncodeWidth.Statement .pushDe := .inl rfl
theorem Laws.EncodeWidth.subD8 (n : Byte) : Laws.EncodeWidth.Statement (.subD8 n) := .inl (show 2 = tableLength 0xD6 from rfl)
theorem Laws.EncodeWidth.rst10 : Laws.EncodeWidth.Statement .rst10 := .inl rfl
theorem Laws.EncodeWidth.retC : Laws.EncodeWidth.Statement .retC := .inl rfl
theorem Laws.EncodeWidth.reti : Laws.EncodeWidth.Statement .reti := .inl rfl
theorem Laws.EncodeWidth.jpCA16 (nn : Word) : Laws.EncodeWidth.Statement (.jpCA16 nn) := .inl (show 3 = tableLength 0xDA from rfl)
theorem Laws.EncodeWidth.callCA16 (nn : Word) : Laws.EncodeWidth.Statement (.callCA16 nn) := .inl (show 3 = tableLength 0xDC from rfl)
theorem Laws.EncodeWidth.sbcAD8 (n : Byte) : Laws.EncodeWidth.Statement (.sbcAD8 n) := .inl (show 2 = tableLength 0xDE from rfl)
theorem Laws.EncodeWidth.rst18 : Laws.EncodeWidth.Statement .rst18 := .inl rfl
theorem Laws.EncodeWidth.ldhIndA8A (n : Byte) : Laws.EncodeWidth.Statement (.ldhIndA8A n) := .inl (show 2 = tableLength 0xE0 from rfl)
theorem Laws.EncodeWidth.popHl : Laws.EncodeWidth.Statement .popHl := .inl rfl
theorem Laws.EncodeWidth.ldIndCA : Laws.EncodeWidth.Statement .ldIndCA := .inl rfl
theorem Laws.EncodeWidth.pushHl : Laws.EncodeWidth.Statement .pushHl := .inl rfl
theorem Laws.EncodeWidth.andD8 (n : Byte) : Laws.EncodeWidth.Statement (.andD8 n) := .inl (show 2 = tableLength 0xE6 from rfl)
theorem Laws.EncodeWidth.rst20 : Laws.EncodeWidth.Statement .rst20 := .inl rfl
theorem Laws.EncodeWidth.addSpE8 (e : Byte) : Laws.EncodeWidth.Statement (.addSpE8 e) := .inl (show 2 = tableLength 0xE8 from rfl)
theorem Laws.EncodeWidth.jpHl : Laws.EncodeWidth.Statement .jpHl := .inl rfl
theorem Laws.EncodeWidth.ldIndA16A (nn : Word) : Laws.EncodeWidth.Statement (.ldIndA16A nn) := .inl (show 3 = tableLength 0xEA from rfl)
theorem Laws.EncodeWidth.xorD8 (n : Byte) : Laws.EncodeWidth.Statement (.xorD8 n) := .inl (show 2 = tableLength 0xEE from rfl)
theorem Laws.EncodeWidth.rst28 : Laws.EncodeWidth.Statement .rst28 := .inl rfl
theorem Laws.EncodeWidth.ldhAIndA8 (n : Byte) : Laws.EncodeWidth.Statement (.ldhAIndA8 n) := .inl (show 2 = tableLength 0xF0 from rfl)
theorem Laws.EncodeWidth.popAf : Laws.EncodeWidth.Statement .popAf := .inl rfl
theorem Laws.EncodeWidth.ldAIndC : Laws.EncodeWidth.Statement .ldAIndC := .inl rfl
theorem Laws.EncodeWidth.di : Laws.EncodeWidth.Statement .di := .inl rfl
theorem Laws.EncodeWidth.pushAf : Laws.EncodeWidth.Statement .pushAf := .inl rfl
theorem Laws.EncodeWidth.orD8 (n : Byte) : Laws.EncodeWidth.Statement (.orD8 n) := .inl (show 2 = tableLength 0xF6 from rfl)
theorem Laws.EncodeWidth.rst30 : Laws.EncodeWidth.Statement .rst30 := .inl rfl
theorem Laws.EncodeWidth.ldHlSpE8 (e : Byte) : Laws.EncodeWidth.Statement (.ldHlSpE8 e) := .inl (show 2 = tableLength 0xF8 from rfl)
theorem Laws.EncodeWidth.ldSpHl : Laws.EncodeWidth.Statement .ldSpHl := .inl rfl
theorem Laws.EncodeWidth.ldAIndA16 (nn : Word) : Laws.EncodeWidth.Statement (.ldAIndA16 nn) := .inl (show 3 = tableLength 0xFA from rfl)
theorem Laws.EncodeWidth.ei : Laws.EncodeWidth.Statement .ei := .inl rfl
theorem Laws.EncodeWidth.cpD8 (n : Byte) : Laws.EncodeWidth.Statement (.cpD8 n) := .inl (show 2 = tableLength 0xFE from rfl)
theorem Laws.EncodeWidth.rst38 : Laws.EncodeWidth.Statement .rst38 := .inl rfl
theorem Laws.EncodeWidth.rlcB : Laws.EncodeWidth.Statement .rlcB := .inl rfl
theorem Laws.EncodeWidth.rlcC : Laws.EncodeWidth.Statement .rlcC := .inl rfl
theorem Laws.EncodeWidth.rlcD : Laws.EncodeWidth.Statement .rlcD := .inl rfl
theorem Laws.EncodeWidth.rlcE : Laws.EncodeWidth.Statement .rlcE := .inl rfl
theorem Laws.EncodeWidth.rlcH : Laws.EncodeWidth.Statement .rlcH := .inl rfl
theorem Laws.EncodeWidth.rlcL : Laws.EncodeWidth.Statement .rlcL := .inl rfl
theorem Laws.EncodeWidth.rlcIndHl : Laws.EncodeWidth.Statement .rlcIndHl := .inl rfl
theorem Laws.EncodeWidth.rlcA : Laws.EncodeWidth.Statement .rlcA := .inl rfl
theorem Laws.EncodeWidth.rrcB : Laws.EncodeWidth.Statement .rrcB := .inl rfl
theorem Laws.EncodeWidth.rrcC : Laws.EncodeWidth.Statement .rrcC := .inl rfl
theorem Laws.EncodeWidth.rrcD : Laws.EncodeWidth.Statement .rrcD := .inl rfl
theorem Laws.EncodeWidth.rrcE : Laws.EncodeWidth.Statement .rrcE := .inl rfl
theorem Laws.EncodeWidth.rrcH : Laws.EncodeWidth.Statement .rrcH := .inl rfl
theorem Laws.EncodeWidth.rrcL : Laws.EncodeWidth.Statement .rrcL := .inl rfl
theorem Laws.EncodeWidth.rrcIndHl : Laws.EncodeWidth.Statement .rrcIndHl := .inl rfl
theorem Laws.EncodeWidth.rrcA : Laws.EncodeWidth.Statement .rrcA := .inl rfl
theorem Laws.EncodeWidth.rlB : Laws.EncodeWidth.Statement .rlB := .inl rfl
theorem Laws.EncodeWidth.rlC : Laws.EncodeWidth.Statement .rlC := .inl rfl
theorem Laws.EncodeWidth.rlD : Laws.EncodeWidth.Statement .rlD := .inl rfl
theorem Laws.EncodeWidth.rlE : Laws.EncodeWidth.Statement .rlE := .inl rfl
theorem Laws.EncodeWidth.rlH : Laws.EncodeWidth.Statement .rlH := .inl rfl
theorem Laws.EncodeWidth.rlL : Laws.EncodeWidth.Statement .rlL := .inl rfl
theorem Laws.EncodeWidth.rlIndHl : Laws.EncodeWidth.Statement .rlIndHl := .inl rfl
theorem Laws.EncodeWidth.rlA : Laws.EncodeWidth.Statement .rlA := .inl rfl
theorem Laws.EncodeWidth.rrB : Laws.EncodeWidth.Statement .rrB := .inl rfl
theorem Laws.EncodeWidth.rrC : Laws.EncodeWidth.Statement .rrC := .inl rfl
theorem Laws.EncodeWidth.rrD : Laws.EncodeWidth.Statement .rrD := .inl rfl
theorem Laws.EncodeWidth.rrE : Laws.EncodeWidth.Statement .rrE := .inl rfl
theorem Laws.EncodeWidth.rrH : Laws.EncodeWidth.Statement .rrH := .inl rfl
theorem Laws.EncodeWidth.rrL : Laws.EncodeWidth.Statement .rrL := .inl rfl
theorem Laws.EncodeWidth.rrIndHl : Laws.EncodeWidth.Statement .rrIndHl := .inl rfl
theorem Laws.EncodeWidth.rrA : Laws.EncodeWidth.Statement .rrA := .inl rfl
theorem Laws.EncodeWidth.slaB : Laws.EncodeWidth.Statement .slaB := .inl rfl
theorem Laws.EncodeWidth.slaC : Laws.EncodeWidth.Statement .slaC := .inl rfl
theorem Laws.EncodeWidth.slaD : Laws.EncodeWidth.Statement .slaD := .inl rfl
theorem Laws.EncodeWidth.slaE : Laws.EncodeWidth.Statement .slaE := .inl rfl
theorem Laws.EncodeWidth.slaH : Laws.EncodeWidth.Statement .slaH := .inl rfl
theorem Laws.EncodeWidth.slaL : Laws.EncodeWidth.Statement .slaL := .inl rfl
theorem Laws.EncodeWidth.slaIndHl : Laws.EncodeWidth.Statement .slaIndHl := .inl rfl
theorem Laws.EncodeWidth.slaA : Laws.EncodeWidth.Statement .slaA := .inl rfl
theorem Laws.EncodeWidth.sraB : Laws.EncodeWidth.Statement .sraB := .inl rfl
theorem Laws.EncodeWidth.sraC : Laws.EncodeWidth.Statement .sraC := .inl rfl
theorem Laws.EncodeWidth.sraD : Laws.EncodeWidth.Statement .sraD := .inl rfl
theorem Laws.EncodeWidth.sraE : Laws.EncodeWidth.Statement .sraE := .inl rfl
theorem Laws.EncodeWidth.sraH : Laws.EncodeWidth.Statement .sraH := .inl rfl
theorem Laws.EncodeWidth.sraL : Laws.EncodeWidth.Statement .sraL := .inl rfl
theorem Laws.EncodeWidth.sraIndHl : Laws.EncodeWidth.Statement .sraIndHl := .inl rfl
theorem Laws.EncodeWidth.sraA : Laws.EncodeWidth.Statement .sraA := .inl rfl
theorem Laws.EncodeWidth.swapB : Laws.EncodeWidth.Statement .swapB := .inl rfl
theorem Laws.EncodeWidth.swapC : Laws.EncodeWidth.Statement .swapC := .inl rfl
theorem Laws.EncodeWidth.swapD : Laws.EncodeWidth.Statement .swapD := .inl rfl
theorem Laws.EncodeWidth.swapE : Laws.EncodeWidth.Statement .swapE := .inl rfl
theorem Laws.EncodeWidth.swapH : Laws.EncodeWidth.Statement .swapH := .inl rfl
theorem Laws.EncodeWidth.swapL : Laws.EncodeWidth.Statement .swapL := .inl rfl
theorem Laws.EncodeWidth.swapIndHl : Laws.EncodeWidth.Statement .swapIndHl := .inl rfl
theorem Laws.EncodeWidth.swapA : Laws.EncodeWidth.Statement .swapA := .inl rfl
theorem Laws.EncodeWidth.srlB : Laws.EncodeWidth.Statement .srlB := .inl rfl
theorem Laws.EncodeWidth.srlC : Laws.EncodeWidth.Statement .srlC := .inl rfl
theorem Laws.EncodeWidth.srlD : Laws.EncodeWidth.Statement .srlD := .inl rfl
theorem Laws.EncodeWidth.srlE : Laws.EncodeWidth.Statement .srlE := .inl rfl
theorem Laws.EncodeWidth.srlH : Laws.EncodeWidth.Statement .srlH := .inl rfl
theorem Laws.EncodeWidth.srlL : Laws.EncodeWidth.Statement .srlL := .inl rfl
theorem Laws.EncodeWidth.srlIndHl : Laws.EncodeWidth.Statement .srlIndHl := .inl rfl
theorem Laws.EncodeWidth.srlA : Laws.EncodeWidth.Statement .srlA := .inl rfl
theorem Laws.EncodeWidth.bit0B : Laws.EncodeWidth.Statement .bit0B := .inl rfl
theorem Laws.EncodeWidth.bit0C : Laws.EncodeWidth.Statement .bit0C := .inl rfl
theorem Laws.EncodeWidth.bit0D : Laws.EncodeWidth.Statement .bit0D := .inl rfl
theorem Laws.EncodeWidth.bit0E : Laws.EncodeWidth.Statement .bit0E := .inl rfl
theorem Laws.EncodeWidth.bit0H : Laws.EncodeWidth.Statement .bit0H := .inl rfl
theorem Laws.EncodeWidth.bit0L : Laws.EncodeWidth.Statement .bit0L := .inl rfl
theorem Laws.EncodeWidth.bit0IndHl : Laws.EncodeWidth.Statement .bit0IndHl := .inl rfl
theorem Laws.EncodeWidth.bit0A : Laws.EncodeWidth.Statement .bit0A := .inl rfl
theorem Laws.EncodeWidth.bit1B : Laws.EncodeWidth.Statement .bit1B := .inl rfl
theorem Laws.EncodeWidth.bit1C : Laws.EncodeWidth.Statement .bit1C := .inl rfl
theorem Laws.EncodeWidth.bit1D : Laws.EncodeWidth.Statement .bit1D := .inl rfl
theorem Laws.EncodeWidth.bit1E : Laws.EncodeWidth.Statement .bit1E := .inl rfl
theorem Laws.EncodeWidth.bit1H : Laws.EncodeWidth.Statement .bit1H := .inl rfl
theorem Laws.EncodeWidth.bit1L : Laws.EncodeWidth.Statement .bit1L := .inl rfl
theorem Laws.EncodeWidth.bit1IndHl : Laws.EncodeWidth.Statement .bit1IndHl := .inl rfl
theorem Laws.EncodeWidth.bit1A : Laws.EncodeWidth.Statement .bit1A := .inl rfl
theorem Laws.EncodeWidth.bit2B : Laws.EncodeWidth.Statement .bit2B := .inl rfl
theorem Laws.EncodeWidth.bit2C : Laws.EncodeWidth.Statement .bit2C := .inl rfl
theorem Laws.EncodeWidth.bit2D : Laws.EncodeWidth.Statement .bit2D := .inl rfl
theorem Laws.EncodeWidth.bit2E : Laws.EncodeWidth.Statement .bit2E := .inl rfl
theorem Laws.EncodeWidth.bit2H : Laws.EncodeWidth.Statement .bit2H := .inl rfl
theorem Laws.EncodeWidth.bit2L : Laws.EncodeWidth.Statement .bit2L := .inl rfl
theorem Laws.EncodeWidth.bit2IndHl : Laws.EncodeWidth.Statement .bit2IndHl := .inl rfl
theorem Laws.EncodeWidth.bit2A : Laws.EncodeWidth.Statement .bit2A := .inl rfl
theorem Laws.EncodeWidth.bit3B : Laws.EncodeWidth.Statement .bit3B := .inl rfl
theorem Laws.EncodeWidth.bit3C : Laws.EncodeWidth.Statement .bit3C := .inl rfl
theorem Laws.EncodeWidth.bit3D : Laws.EncodeWidth.Statement .bit3D := .inl rfl
theorem Laws.EncodeWidth.bit3E : Laws.EncodeWidth.Statement .bit3E := .inl rfl
theorem Laws.EncodeWidth.bit3H : Laws.EncodeWidth.Statement .bit3H := .inl rfl
theorem Laws.EncodeWidth.bit3L : Laws.EncodeWidth.Statement .bit3L := .inl rfl
theorem Laws.EncodeWidth.bit3IndHl : Laws.EncodeWidth.Statement .bit3IndHl := .inl rfl
theorem Laws.EncodeWidth.bit3A : Laws.EncodeWidth.Statement .bit3A := .inl rfl
theorem Laws.EncodeWidth.bit4B : Laws.EncodeWidth.Statement .bit4B := .inl rfl
theorem Laws.EncodeWidth.bit4C : Laws.EncodeWidth.Statement .bit4C := .inl rfl
theorem Laws.EncodeWidth.bit4D : Laws.EncodeWidth.Statement .bit4D := .inl rfl
theorem Laws.EncodeWidth.bit4E : Laws.EncodeWidth.Statement .bit4E := .inl rfl
theorem Laws.EncodeWidth.bit4H : Laws.EncodeWidth.Statement .bit4H := .inl rfl
theorem Laws.EncodeWidth.bit4L : Laws.EncodeWidth.Statement .bit4L := .inl rfl
theorem Laws.EncodeWidth.bit4IndHl : Laws.EncodeWidth.Statement .bit4IndHl := .inl rfl
theorem Laws.EncodeWidth.bit4A : Laws.EncodeWidth.Statement .bit4A := .inl rfl
theorem Laws.EncodeWidth.bit5B : Laws.EncodeWidth.Statement .bit5B := .inl rfl
theorem Laws.EncodeWidth.bit5C : Laws.EncodeWidth.Statement .bit5C := .inl rfl
theorem Laws.EncodeWidth.bit5D : Laws.EncodeWidth.Statement .bit5D := .inl rfl
theorem Laws.EncodeWidth.bit5E : Laws.EncodeWidth.Statement .bit5E := .inl rfl
theorem Laws.EncodeWidth.bit5H : Laws.EncodeWidth.Statement .bit5H := .inl rfl
theorem Laws.EncodeWidth.bit5L : Laws.EncodeWidth.Statement .bit5L := .inl rfl
theorem Laws.EncodeWidth.bit5IndHl : Laws.EncodeWidth.Statement .bit5IndHl := .inl rfl
theorem Laws.EncodeWidth.bit5A : Laws.EncodeWidth.Statement .bit5A := .inl rfl
theorem Laws.EncodeWidth.bit6B : Laws.EncodeWidth.Statement .bit6B := .inl rfl
theorem Laws.EncodeWidth.bit6C : Laws.EncodeWidth.Statement .bit6C := .inl rfl
theorem Laws.EncodeWidth.bit6D : Laws.EncodeWidth.Statement .bit6D := .inl rfl
theorem Laws.EncodeWidth.bit6E : Laws.EncodeWidth.Statement .bit6E := .inl rfl
theorem Laws.EncodeWidth.bit6H : Laws.EncodeWidth.Statement .bit6H := .inl rfl
theorem Laws.EncodeWidth.bit6L : Laws.EncodeWidth.Statement .bit6L := .inl rfl
theorem Laws.EncodeWidth.bit6IndHl : Laws.EncodeWidth.Statement .bit6IndHl := .inl rfl
theorem Laws.EncodeWidth.bit6A : Laws.EncodeWidth.Statement .bit6A := .inl rfl
theorem Laws.EncodeWidth.bit7B : Laws.EncodeWidth.Statement .bit7B := .inl rfl
theorem Laws.EncodeWidth.bit7C : Laws.EncodeWidth.Statement .bit7C := .inl rfl
theorem Laws.EncodeWidth.bit7D : Laws.EncodeWidth.Statement .bit7D := .inl rfl
theorem Laws.EncodeWidth.bit7E : Laws.EncodeWidth.Statement .bit7E := .inl rfl
theorem Laws.EncodeWidth.bit7H : Laws.EncodeWidth.Statement .bit7H := .inl rfl
theorem Laws.EncodeWidth.bit7L : Laws.EncodeWidth.Statement .bit7L := .inl rfl
theorem Laws.EncodeWidth.bit7IndHl : Laws.EncodeWidth.Statement .bit7IndHl := .inl rfl
theorem Laws.EncodeWidth.bit7A : Laws.EncodeWidth.Statement .bit7A := .inl rfl
theorem Laws.EncodeWidth.res0B : Laws.EncodeWidth.Statement .res0B := .inl rfl
theorem Laws.EncodeWidth.res0C : Laws.EncodeWidth.Statement .res0C := .inl rfl
theorem Laws.EncodeWidth.res0D : Laws.EncodeWidth.Statement .res0D := .inl rfl
theorem Laws.EncodeWidth.res0E : Laws.EncodeWidth.Statement .res0E := .inl rfl
theorem Laws.EncodeWidth.res0H : Laws.EncodeWidth.Statement .res0H := .inl rfl
theorem Laws.EncodeWidth.res0L : Laws.EncodeWidth.Statement .res0L := .inl rfl
theorem Laws.EncodeWidth.res0IndHl : Laws.EncodeWidth.Statement .res0IndHl := .inl rfl
theorem Laws.EncodeWidth.res0A : Laws.EncodeWidth.Statement .res0A := .inl rfl
theorem Laws.EncodeWidth.res1B : Laws.EncodeWidth.Statement .res1B := .inl rfl
theorem Laws.EncodeWidth.res1C : Laws.EncodeWidth.Statement .res1C := .inl rfl
theorem Laws.EncodeWidth.res1D : Laws.EncodeWidth.Statement .res1D := .inl rfl
theorem Laws.EncodeWidth.res1E : Laws.EncodeWidth.Statement .res1E := .inl rfl
theorem Laws.EncodeWidth.res1H : Laws.EncodeWidth.Statement .res1H := .inl rfl
theorem Laws.EncodeWidth.res1L : Laws.EncodeWidth.Statement .res1L := .inl rfl
theorem Laws.EncodeWidth.res1IndHl : Laws.EncodeWidth.Statement .res1IndHl := .inl rfl
theorem Laws.EncodeWidth.res1A : Laws.EncodeWidth.Statement .res1A := .inl rfl
theorem Laws.EncodeWidth.res2B : Laws.EncodeWidth.Statement .res2B := .inl rfl
theorem Laws.EncodeWidth.res2C : Laws.EncodeWidth.Statement .res2C := .inl rfl
theorem Laws.EncodeWidth.res2D : Laws.EncodeWidth.Statement .res2D := .inl rfl
theorem Laws.EncodeWidth.res2E : Laws.EncodeWidth.Statement .res2E := .inl rfl
theorem Laws.EncodeWidth.res2H : Laws.EncodeWidth.Statement .res2H := .inl rfl
theorem Laws.EncodeWidth.res2L : Laws.EncodeWidth.Statement .res2L := .inl rfl
theorem Laws.EncodeWidth.res2IndHl : Laws.EncodeWidth.Statement .res2IndHl := .inl rfl
theorem Laws.EncodeWidth.res2A : Laws.EncodeWidth.Statement .res2A := .inl rfl
theorem Laws.EncodeWidth.res3B : Laws.EncodeWidth.Statement .res3B := .inl rfl
theorem Laws.EncodeWidth.res3C : Laws.EncodeWidth.Statement .res3C := .inl rfl
theorem Laws.EncodeWidth.res3D : Laws.EncodeWidth.Statement .res3D := .inl rfl
theorem Laws.EncodeWidth.res3E : Laws.EncodeWidth.Statement .res3E := .inl rfl
theorem Laws.EncodeWidth.res3H : Laws.EncodeWidth.Statement .res3H := .inl rfl
theorem Laws.EncodeWidth.res3L : Laws.EncodeWidth.Statement .res3L := .inl rfl
theorem Laws.EncodeWidth.res3IndHl : Laws.EncodeWidth.Statement .res3IndHl := .inl rfl
theorem Laws.EncodeWidth.res3A : Laws.EncodeWidth.Statement .res3A := .inl rfl
theorem Laws.EncodeWidth.res4B : Laws.EncodeWidth.Statement .res4B := .inl rfl
theorem Laws.EncodeWidth.res4C : Laws.EncodeWidth.Statement .res4C := .inl rfl
theorem Laws.EncodeWidth.res4D : Laws.EncodeWidth.Statement .res4D := .inl rfl
theorem Laws.EncodeWidth.res4E : Laws.EncodeWidth.Statement .res4E := .inl rfl
theorem Laws.EncodeWidth.res4H : Laws.EncodeWidth.Statement .res4H := .inl rfl
theorem Laws.EncodeWidth.res4L : Laws.EncodeWidth.Statement .res4L := .inl rfl
theorem Laws.EncodeWidth.res4IndHl : Laws.EncodeWidth.Statement .res4IndHl := .inl rfl
theorem Laws.EncodeWidth.res4A : Laws.EncodeWidth.Statement .res4A := .inl rfl
theorem Laws.EncodeWidth.res5B : Laws.EncodeWidth.Statement .res5B := .inl rfl
theorem Laws.EncodeWidth.res5C : Laws.EncodeWidth.Statement .res5C := .inl rfl
theorem Laws.EncodeWidth.res5D : Laws.EncodeWidth.Statement .res5D := .inl rfl
theorem Laws.EncodeWidth.res5E : Laws.EncodeWidth.Statement .res5E := .inl rfl
theorem Laws.EncodeWidth.res5H : Laws.EncodeWidth.Statement .res5H := .inl rfl
theorem Laws.EncodeWidth.res5L : Laws.EncodeWidth.Statement .res5L := .inl rfl
theorem Laws.EncodeWidth.res5IndHl : Laws.EncodeWidth.Statement .res5IndHl := .inl rfl
theorem Laws.EncodeWidth.res5A : Laws.EncodeWidth.Statement .res5A := .inl rfl
theorem Laws.EncodeWidth.res6B : Laws.EncodeWidth.Statement .res6B := .inl rfl
theorem Laws.EncodeWidth.res6C : Laws.EncodeWidth.Statement .res6C := .inl rfl
theorem Laws.EncodeWidth.res6D : Laws.EncodeWidth.Statement .res6D := .inl rfl
theorem Laws.EncodeWidth.res6E : Laws.EncodeWidth.Statement .res6E := .inl rfl
theorem Laws.EncodeWidth.res6H : Laws.EncodeWidth.Statement .res6H := .inl rfl
theorem Laws.EncodeWidth.res6L : Laws.EncodeWidth.Statement .res6L := .inl rfl
theorem Laws.EncodeWidth.res6IndHl : Laws.EncodeWidth.Statement .res6IndHl := .inl rfl
theorem Laws.EncodeWidth.res6A : Laws.EncodeWidth.Statement .res6A := .inl rfl
theorem Laws.EncodeWidth.res7B : Laws.EncodeWidth.Statement .res7B := .inl rfl
theorem Laws.EncodeWidth.res7C : Laws.EncodeWidth.Statement .res7C := .inl rfl
theorem Laws.EncodeWidth.res7D : Laws.EncodeWidth.Statement .res7D := .inl rfl
theorem Laws.EncodeWidth.res7E : Laws.EncodeWidth.Statement .res7E := .inl rfl
theorem Laws.EncodeWidth.res7H : Laws.EncodeWidth.Statement .res7H := .inl rfl
theorem Laws.EncodeWidth.res7L : Laws.EncodeWidth.Statement .res7L := .inl rfl
theorem Laws.EncodeWidth.res7IndHl : Laws.EncodeWidth.Statement .res7IndHl := .inl rfl
theorem Laws.EncodeWidth.res7A : Laws.EncodeWidth.Statement .res7A := .inl rfl
theorem Laws.EncodeWidth.set0B : Laws.EncodeWidth.Statement .set0B := .inl rfl
theorem Laws.EncodeWidth.set0C : Laws.EncodeWidth.Statement .set0C := .inl rfl
theorem Laws.EncodeWidth.set0D : Laws.EncodeWidth.Statement .set0D := .inl rfl
theorem Laws.EncodeWidth.set0E : Laws.EncodeWidth.Statement .set0E := .inl rfl
theorem Laws.EncodeWidth.set0H : Laws.EncodeWidth.Statement .set0H := .inl rfl
theorem Laws.EncodeWidth.set0L : Laws.EncodeWidth.Statement .set0L := .inl rfl
theorem Laws.EncodeWidth.set0IndHl : Laws.EncodeWidth.Statement .set0IndHl := .inl rfl
theorem Laws.EncodeWidth.set0A : Laws.EncodeWidth.Statement .set0A := .inl rfl
theorem Laws.EncodeWidth.set1B : Laws.EncodeWidth.Statement .set1B := .inl rfl
theorem Laws.EncodeWidth.set1C : Laws.EncodeWidth.Statement .set1C := .inl rfl
theorem Laws.EncodeWidth.set1D : Laws.EncodeWidth.Statement .set1D := .inl rfl
theorem Laws.EncodeWidth.set1E : Laws.EncodeWidth.Statement .set1E := .inl rfl
theorem Laws.EncodeWidth.set1H : Laws.EncodeWidth.Statement .set1H := .inl rfl
theorem Laws.EncodeWidth.set1L : Laws.EncodeWidth.Statement .set1L := .inl rfl
theorem Laws.EncodeWidth.set1IndHl : Laws.EncodeWidth.Statement .set1IndHl := .inl rfl
theorem Laws.EncodeWidth.set1A : Laws.EncodeWidth.Statement .set1A := .inl rfl
theorem Laws.EncodeWidth.set2B : Laws.EncodeWidth.Statement .set2B := .inl rfl
theorem Laws.EncodeWidth.set2C : Laws.EncodeWidth.Statement .set2C := .inl rfl
theorem Laws.EncodeWidth.set2D : Laws.EncodeWidth.Statement .set2D := .inl rfl
theorem Laws.EncodeWidth.set2E : Laws.EncodeWidth.Statement .set2E := .inl rfl
theorem Laws.EncodeWidth.set2H : Laws.EncodeWidth.Statement .set2H := .inl rfl
theorem Laws.EncodeWidth.set2L : Laws.EncodeWidth.Statement .set2L := .inl rfl
theorem Laws.EncodeWidth.set2IndHl : Laws.EncodeWidth.Statement .set2IndHl := .inl rfl
theorem Laws.EncodeWidth.set2A : Laws.EncodeWidth.Statement .set2A := .inl rfl
theorem Laws.EncodeWidth.set3B : Laws.EncodeWidth.Statement .set3B := .inl rfl
theorem Laws.EncodeWidth.set3C : Laws.EncodeWidth.Statement .set3C := .inl rfl
theorem Laws.EncodeWidth.set3D : Laws.EncodeWidth.Statement .set3D := .inl rfl
theorem Laws.EncodeWidth.set3E : Laws.EncodeWidth.Statement .set3E := .inl rfl
theorem Laws.EncodeWidth.set3H : Laws.EncodeWidth.Statement .set3H := .inl rfl
theorem Laws.EncodeWidth.set3L : Laws.EncodeWidth.Statement .set3L := .inl rfl
theorem Laws.EncodeWidth.set3IndHl : Laws.EncodeWidth.Statement .set3IndHl := .inl rfl
theorem Laws.EncodeWidth.set3A : Laws.EncodeWidth.Statement .set3A := .inl rfl
theorem Laws.EncodeWidth.set4B : Laws.EncodeWidth.Statement .set4B := .inl rfl
theorem Laws.EncodeWidth.set4C : Laws.EncodeWidth.Statement .set4C := .inl rfl
theorem Laws.EncodeWidth.set4D : Laws.EncodeWidth.Statement .set4D := .inl rfl
theorem Laws.EncodeWidth.set4E : Laws.EncodeWidth.Statement .set4E := .inl rfl
theorem Laws.EncodeWidth.set4H : Laws.EncodeWidth.Statement .set4H := .inl rfl
theorem Laws.EncodeWidth.set4L : Laws.EncodeWidth.Statement .set4L := .inl rfl
theorem Laws.EncodeWidth.set4IndHl : Laws.EncodeWidth.Statement .set4IndHl := .inl rfl
theorem Laws.EncodeWidth.set4A : Laws.EncodeWidth.Statement .set4A := .inl rfl
theorem Laws.EncodeWidth.set5B : Laws.EncodeWidth.Statement .set5B := .inl rfl
theorem Laws.EncodeWidth.set5C : Laws.EncodeWidth.Statement .set5C := .inl rfl
theorem Laws.EncodeWidth.set5D : Laws.EncodeWidth.Statement .set5D := .inl rfl
theorem Laws.EncodeWidth.set5E : Laws.EncodeWidth.Statement .set5E := .inl rfl
theorem Laws.EncodeWidth.set5H : Laws.EncodeWidth.Statement .set5H := .inl rfl
theorem Laws.EncodeWidth.set5L : Laws.EncodeWidth.Statement .set5L := .inl rfl
theorem Laws.EncodeWidth.set5IndHl : Laws.EncodeWidth.Statement .set5IndHl := .inl rfl
theorem Laws.EncodeWidth.set5A : Laws.EncodeWidth.Statement .set5A := .inl rfl
theorem Laws.EncodeWidth.set6B : Laws.EncodeWidth.Statement .set6B := .inl rfl
theorem Laws.EncodeWidth.set6C : Laws.EncodeWidth.Statement .set6C := .inl rfl
theorem Laws.EncodeWidth.set6D : Laws.EncodeWidth.Statement .set6D := .inl rfl
theorem Laws.EncodeWidth.set6E : Laws.EncodeWidth.Statement .set6E := .inl rfl
theorem Laws.EncodeWidth.set6H : Laws.EncodeWidth.Statement .set6H := .inl rfl
theorem Laws.EncodeWidth.set6L : Laws.EncodeWidth.Statement .set6L := .inl rfl
theorem Laws.EncodeWidth.set6IndHl : Laws.EncodeWidth.Statement .set6IndHl := .inl rfl
theorem Laws.EncodeWidth.set6A : Laws.EncodeWidth.Statement .set6A := .inl rfl
theorem Laws.EncodeWidth.set7B : Laws.EncodeWidth.Statement .set7B := .inl rfl
theorem Laws.EncodeWidth.set7C : Laws.EncodeWidth.Statement .set7C := .inl rfl
theorem Laws.EncodeWidth.set7D : Laws.EncodeWidth.Statement .set7D := .inl rfl
theorem Laws.EncodeWidth.set7E : Laws.EncodeWidth.Statement .set7E := .inl rfl
theorem Laws.EncodeWidth.set7H : Laws.EncodeWidth.Statement .set7H := .inl rfl
theorem Laws.EncodeWidth.set7L : Laws.EncodeWidth.Statement .set7L := .inl rfl
theorem Laws.EncodeWidth.set7IndHl : Laws.EncodeWidth.Statement .set7IndHl := .inl rfl
theorem Laws.EncodeWidth.set7A : Laws.EncodeWidth.Statement .set7A := .inl rfl

end Sys2Proof
end

