-- ==== Sys2Proof/Tests/Slice0.lean ====
section
/-! SUPPORT. Small tests: every row of the opcode table decodes, the worked examples and vectors of
95_test_vectors.md, the terms `Instr.wf` refuses, a launch of each kind, and a witness for every statement that has
hypotheses. The expected results are the spec's own. -/

namespace Sys2Proof.Tests

open Sys2Proof Sys2Proof.Machine

/-! ### Well-formedness -/

theorem test_wf_refuses_illegal_of_an_instruction_byte : (Instr.illegal 0x00).wf = false := by decide

theorem test_wf_refuses_prefix_as_an_instruction : (Instr.prefixCb 0x37).wf = false := by decide

theorem test_wf_takes_every_illegal_byte : illegalBytes.all (fun op => (Instr.illegal op).wf) = true := by decide

/-! ### Decoding and encoding, row by row of spec/opcode_table.json
The bytes are the rows' `encoding` bits, with 0xA7 for an imm8 or e8 and 0x1234 for an imm16. -/

/-- The bytes decode to `i` with nothing left over, and `i` encodes to the bytes. -/
def decodesTo (row : List Byte × Instr) : Bool :=
  match decode row.1 with
  | .ok (j, []) => decide (j = row.2) && decide (encode row.2 = row.1)
  | _ => false

theorem test_decode_primary_0 : List.all
   [([0b00000000], .nop), ([0b00000001, 0x34, 0x12], .ldBcD16 0x1234), ([0b00000010], .ldIndBcA),
    ([0b00000011], .incBc), ([0b00000100], .incB), ([0b00000101], .decB), ([0b00000110, 0xA7], .ldBD8 0xA7),
    ([0b00000111], .rlca), ([0b00001000, 0x34, 0x12], .ldIndA16Sp 0x1234), ([0b00001001], .addHlBc),
    ([0b00001010], .ldAIndBc), ([0b00001011], .decBc), ([0b00001100], .incC), ([0b00001101], .decC),
    ([0b00001110, 0xA7], .ldCD8 0xA7), ([0b00001111], .rrca), ([0b00010000, 0xA7], .stop 0xA7),
    ([0b00010001, 0x34, 0x12], .ldDeD16 0x1234), ([0b00010010], .ldIndDeA), ([0b00010011], .incDe),
    ([0b00010100], .incD), ([0b00010101], .decD), ([0b00010110, 0xA7], .ldDD8 0xA7), ([0b00010111], .rla),
    ([0b00011000, 0xA7], .jrE8 0xA7), ([0b00011001], .addHlDe), ([0b00011010], .ldAIndDe),
    ([0b00011011], .decDe), ([0b00011100], .incE), ([0b00011101], .decE), ([0b00011110, 0xA7], .ldED8 0xA7),
    ([0b00011111], .rra)]
    decodesTo = true := by decide

theorem test_decode_primary_1 : List.all
   [([0b00100000, 0xA7], .jrNzE8 0xA7), ([0b00100001, 0x34, 0x12], .ldHlD16 0x1234), ([0b00100010], .ldHliA),
    ([0b00100011], .incHl), ([0b00100100], .incH), ([0b00100101], .decH), ([0b00100110, 0xA7], .ldHD8 0xA7),
    ([0b00100111], .daa), ([0b00101000, 0xA7], .jrZE8 0xA7), ([0b00101001], .addHlHl),
    ([0b00101010], .ldAHli), ([0b00101011], .decHl), ([0b00101100], .incL), ([0b00101101], .decL),
    ([0b00101110, 0xA7], .ldLD8 0xA7), ([0b00101111], .cpl), ([0b00110000, 0xA7], .jrNcE8 0xA7),
    ([0b00110001, 0x34, 0x12], .ldSpD16 0x1234), ([0b00110010], .ldHldA), ([0b00110011], .incSp),
    ([0b00110100], .incIndHl), ([0b00110101], .decIndHl), ([0b00110110, 0xA7], .ldIndHlD8 0xA7),
    ([0b00110111], .scf), ([0b00111000, 0xA7], .jrCE8 0xA7), ([0b00111001], .addHlSp),
    ([0b00111010], .ldAHld), ([0b00111011], .decSp), ([0b00111100], .incA), ([0b00111101], .decA),
    ([0b00111110, 0xA7], .ldAD8 0xA7), ([0b00111111], .ccf)]
    decodesTo = true := by decide

theorem test_decode_primary_2 : List.all
   [([0b01000000], .ldBB), ([0b01000001], .ldBC), ([0b01000010], .ldBD), ([0b01000011], .ldBE),
    ([0b01000100], .ldBH), ([0b01000101], .ldBL), ([0b01000110], .ldBIndHl), ([0b01000111], .ldBA),
    ([0b01001000], .ldCB), ([0b01001001], .ldCC), ([0b01001010], .ldCD), ([0b01001011], .ldCE),
    ([0b01001100], .ldCH), ([0b01001101], .ldCL), ([0b01001110], .ldCIndHl), ([0b01001111], .ldCA),
    ([0b01010000], .ldDB), ([0b01010001], .ldDC), ([0b01010010], .ldDD), ([0b01010011], .ldDE),
    ([0b01010100], .ldDH), ([0b01010101], .ldDL), ([0b01010110], .ldDIndHl), ([0b01010111], .ldDA),
    ([0b01011000], .ldEB), ([0b01011001], .ldEC), ([0b01011010], .ldED), ([0b01011011], .ldEE),
    ([0b01011100], .ldEH), ([0b01011101], .ldEL), ([0b01011110], .ldEIndHl), ([0b01011111], .ldEA)]
    decodesTo = true := by decide

theorem test_decode_primary_3 : List.all
   [([0b01100000], .ldHB), ([0b01100001], .ldHC), ([0b01100010], .ldHD), ([0b01100011], .ldHE),
    ([0b01100100], .ldHH), ([0b01100101], .ldHL), ([0b01100110], .ldHIndHl), ([0b01100111], .ldHA),
    ([0b01101000], .ldLB), ([0b01101001], .ldLC), ([0b01101010], .ldLD), ([0b01101011], .ldLE),
    ([0b01101100], .ldLH), ([0b01101101], .ldLL), ([0b01101110], .ldLIndHl), ([0b01101111], .ldLA),
    ([0b01110000], .ldIndHlB), ([0b01110001], .ldIndHlC), ([0b01110010], .ldIndHlD),
    ([0b01110011], .ldIndHlE), ([0b01110100], .ldIndHlH), ([0b01110101], .ldIndHlL), ([0b01110110], .halt),
    ([0b01110111], .ldIndHlA), ([0b01111000], .ldAB), ([0b01111001], .ldAC), ([0b01111010], .ldAD),
    ([0b01111011], .ldAE), ([0b01111100], .ldAH), ([0b01111101], .ldAL), ([0b01111110], .ldAIndHl),
    ([0b01111111], .ldAA)]
    decodesTo = true := by decide

theorem test_decode_primary_4 : List.all
   [([0b10000000], .addAB), ([0b10000001], .addAC), ([0b10000010], .addAD), ([0b10000011], .addAE),
    ([0b10000100], .addAH), ([0b10000101], .addAL), ([0b10000110], .addAIndHl), ([0b10000111], .addAA),
    ([0b10001000], .adcAB), ([0b10001001], .adcAC), ([0b10001010], .adcAD), ([0b10001011], .adcAE),
    ([0b10001100], .adcAH), ([0b10001101], .adcAL), ([0b10001110], .adcAIndHl), ([0b10001111], .adcAA),
    ([0b10010000], .subB), ([0b10010001], .subC), ([0b10010010], .subD), ([0b10010011], .subE),
    ([0b10010100], .subH), ([0b10010101], .subL), ([0b10010110], .subIndHl), ([0b10010111], .subA),
    ([0b10011000], .sbcAB), ([0b10011001], .sbcAC), ([0b10011010], .sbcAD), ([0b10011011], .sbcAE),
    ([0b10011100], .sbcAH), ([0b10011101], .sbcAL), ([0b10011110], .sbcAIndHl), ([0b10011111], .sbcAA)]
    decodesTo = true := by decide

theorem test_decode_primary_5 : List.all
   [([0b10100000], .andB), ([0b10100001], .andC), ([0b10100010], .andD), ([0b10100011], .andE),
    ([0b10100100], .andH), ([0b10100101], .andL), ([0b10100110], .andIndHl), ([0b10100111], .andA),
    ([0b10101000], .xorB), ([0b10101001], .xorC), ([0b10101010], .xorD), ([0b10101011], .xorE),
    ([0b10101100], .xorH), ([0b10101101], .xorL), ([0b10101110], .xorIndHl), ([0b10101111], .xorA),
    ([0b10110000], .orB), ([0b10110001], .orC), ([0b10110010], .orD), ([0b10110011], .orE),
    ([0b10110100], .orH), ([0b10110101], .orL), ([0b10110110], .orIndHl), ([0b10110111], .orA),
    ([0b10111000], .cpB), ([0b10111001], .cpC), ([0b10111010], .cpD), ([0b10111011], .cpE),
    ([0b10111100], .cpH), ([0b10111101], .cpL), ([0b10111110], .cpIndHl), ([0b10111111], .cpA)]
    decodesTo = true := by decide

theorem test_decode_primary_6 : List.all
   [([0b11000000], .retNz), ([0b11000001], .popBc), ([0b11000010, 0x34, 0x12], .jpNzA16 0x1234),
    ([0b11000011, 0x34, 0x12], .jpA16 0x1234), ([0b11000100, 0x34, 0x12], .callNzA16 0x1234),
    ([0b11000101], .pushBc), ([0b11000110, 0xA7], .addAD8 0xA7), ([0b11000111], .rst00),
    ([0b11001000], .retZ), ([0b11001001], .ret), ([0b11001010, 0x34, 0x12], .jpZA16 0x1234),
    ([0b11001100, 0x34, 0x12], .callZA16 0x1234), ([0b11001101, 0x34, 0x12], .callA16 0x1234),
    ([0b11001110, 0xA7], .adcAD8 0xA7), ([0b11001111], .rst08), ([0b11010000], .retNc),
    ([0b11010001], .popDe), ([0b11010010, 0x34, 0x12], .jpNcA16 0x1234), ([0b11010011], .illegal 0xD3),
    ([0b11010100, 0x34, 0x12], .callNcA16 0x1234), ([0b11010101], .pushDe), ([0b11010110, 0xA7], .subD8 0xA7),
    ([0b11010111], .rst10), ([0b11011000], .retC), ([0b11011001], .reti),
    ([0b11011010, 0x34, 0x12], .jpCA16 0x1234), ([0b11011011], .illegal 0xDB),
    ([0b11011100, 0x34, 0x12], .callCA16 0x1234), ([0b11011101], .illegal 0xDD),
    ([0b11011110, 0xA7], .sbcAD8 0xA7), ([0b11011111], .rst18), ([0b11100000, 0xA7], .ldhIndA8A 0xA7)]
    decodesTo = true := by decide

theorem test_decode_primary_7 : List.all
   [([0b11100001], .popHl), ([0b11100010], .ldIndCA), ([0b11100011], .illegal 0xE3),
    ([0b11100100], .illegal 0xE4), ([0b11100101], .pushHl), ([0b11100110, 0xA7], .andD8 0xA7),
    ([0b11100111], .rst20), ([0b11101000, 0xA7], .addSpE8 0xA7), ([0b11101001], .jpHl),
    ([0b11101010, 0x34, 0x12], .ldIndA16A 0x1234), ([0b11101011], .illegal 0xEB),
    ([0b11101100], .illegal 0xEC), ([0b11101101], .illegal 0xED), ([0b11101110, 0xA7], .xorD8 0xA7),
    ([0b11101111], .rst28), ([0b11110000, 0xA7], .ldhAIndA8 0xA7), ([0b11110001], .popAf),
    ([0b11110010], .ldAIndC), ([0b11110011], .di), ([0b11110100], .illegal 0xF4), ([0b11110101], .pushAf),
    ([0b11110110, 0xA7], .orD8 0xA7), ([0b11110111], .rst30), ([0b11111000, 0xA7], .ldHlSpE8 0xA7),
    ([0b11111001], .ldSpHl), ([0b11111010, 0x34, 0x12], .ldAIndA16 0x1234), ([0b11111011], .ei),
    ([0b11111100], .illegal 0xFC), ([0b11111101], .illegal 0xFD), ([0b11111110, 0xA7], .cpD8 0xA7),
    ([0b11111111], .rst38)]
    decodesTo = true := by decide

theorem test_decode_secondary_0 : List.all
   [([0b11001011, 0b00000000], .rlcB), ([0b11001011, 0b00000001], .rlcC), ([0b11001011, 0b00000010], .rlcD),
    ([0b11001011, 0b00000011], .rlcE), ([0b11001011, 0b00000100], .rlcH), ([0b11001011, 0b00000101], .rlcL),
    ([0b11001011, 0b00000110], .rlcIndHl), ([0b11001011, 0b00000111], .rlcA),
    ([0b11001011, 0b00001000], .rrcB), ([0b11001011, 0b00001001], .rrcC), ([0b11001011, 0b00001010], .rrcD),
    ([0b11001011, 0b00001011], .rrcE), ([0b11001011, 0b00001100], .rrcH), ([0b11001011, 0b00001101], .rrcL),
    ([0b11001011, 0b00001110], .rrcIndHl), ([0b11001011, 0b00001111], .rrcA),
    ([0b11001011, 0b00010000], .rlB), ([0b11001011, 0b00010001], .rlC), ([0b11001011, 0b00010010], .rlD),
    ([0b11001011, 0b00010011], .rlE), ([0b11001011, 0b00010100], .rlH), ([0b11001011, 0b00010101], .rlL),
    ([0b11001011, 0b00010110], .rlIndHl), ([0b11001011, 0b00010111], .rlA), ([0b11001011, 0b00011000], .rrB),
    ([0b11001011, 0b00011001], .rrC), ([0b11001011, 0b00011010], .rrD), ([0b11001011, 0b00011011], .rrE),
    ([0b11001011, 0b00011100], .rrH), ([0b11001011, 0b00011101], .rrL), ([0b11001011, 0b00011110], .rrIndHl),
    ([0b11001011, 0b00011111], .rrA)]
    decodesTo = true := by decide

theorem test_decode_secondary_1 : List.all
   [([0b11001011, 0b00100000], .slaB), ([0b11001011, 0b00100001], .slaC), ([0b11001011, 0b00100010], .slaD),
    ([0b11001011, 0b00100011], .slaE), ([0b11001011, 0b00100100], .slaH), ([0b11001011, 0b00100101], .slaL),
    ([0b11001011, 0b00100110], .slaIndHl), ([0b11001011, 0b00100111], .slaA),
    ([0b11001011, 0b00101000], .sraB), ([0b11001011, 0b00101001], .sraC), ([0b11001011, 0b00101010], .sraD),
    ([0b11001011, 0b00101011], .sraE), ([0b11001011, 0b00101100], .sraH), ([0b11001011, 0b00101101], .sraL),
    ([0b11001011, 0b00101110], .sraIndHl), ([0b11001011, 0b00101111], .sraA),
    ([0b11001011, 0b00110000], .swapB), ([0b11001011, 0b00110001], .swapC),
    ([0b11001011, 0b00110010], .swapD), ([0b11001011, 0b00110011], .swapE),
    ([0b11001011, 0b00110100], .swapH), ([0b11001011, 0b00110101], .swapL),
    ([0b11001011, 0b00110110], .swapIndHl), ([0b11001011, 0b00110111], .swapA),
    ([0b11001011, 0b00111000], .srlB), ([0b11001011, 0b00111001], .srlC), ([0b11001011, 0b00111010], .srlD),
    ([0b11001011, 0b00111011], .srlE), ([0b11001011, 0b00111100], .srlH), ([0b11001011, 0b00111101], .srlL),
    ([0b11001011, 0b00111110], .srlIndHl), ([0b11001011, 0b00111111], .srlA)]
    decodesTo = true := by decide

theorem test_decode_secondary_2 : List.all
   [([0b11001011, 0b01000000], .bit0B), ([0b11001011, 0b01000001], .bit0C),
    ([0b11001011, 0b01000010], .bit0D), ([0b11001011, 0b01000011], .bit0E),
    ([0b11001011, 0b01000100], .bit0H), ([0b11001011, 0b01000101], .bit0L),
    ([0b11001011, 0b01000110], .bit0IndHl), ([0b11001011, 0b01000111], .bit0A),
    ([0b11001011, 0b01001000], .bit1B), ([0b11001011, 0b01001001], .bit1C),
    ([0b11001011, 0b01001010], .bit1D), ([0b11001011, 0b01001011], .bit1E),
    ([0b11001011, 0b01001100], .bit1H), ([0b11001011, 0b01001101], .bit1L),
    ([0b11001011, 0b01001110], .bit1IndHl), ([0b11001011, 0b01001111], .bit1A),
    ([0b11001011, 0b01010000], .bit2B), ([0b11001011, 0b01010001], .bit2C),
    ([0b11001011, 0b01010010], .bit2D), ([0b11001011, 0b01010011], .bit2E),
    ([0b11001011, 0b01010100], .bit2H), ([0b11001011, 0b01010101], .bit2L),
    ([0b11001011, 0b01010110], .bit2IndHl), ([0b11001011, 0b01010111], .bit2A),
    ([0b11001011, 0b01011000], .bit3B), ([0b11001011, 0b01011001], .bit3C),
    ([0b11001011, 0b01011010], .bit3D), ([0b11001011, 0b01011011], .bit3E),
    ([0b11001011, 0b01011100], .bit3H), ([0b11001011, 0b01011101], .bit3L),
    ([0b11001011, 0b01011110], .bit3IndHl), ([0b11001011, 0b01011111], .bit3A)]
    decodesTo = true := by decide

theorem test_decode_secondary_3 : List.all
   [([0b11001011, 0b01100000], .bit4B), ([0b11001011, 0b01100001], .bit4C),
    ([0b11001011, 0b01100010], .bit4D), ([0b11001011, 0b01100011], .bit4E),
    ([0b11001011, 0b01100100], .bit4H), ([0b11001011, 0b01100101], .bit4L),
    ([0b11001011, 0b01100110], .bit4IndHl), ([0b11001011, 0b01100111], .bit4A),
    ([0b11001011, 0b01101000], .bit5B), ([0b11001011, 0b01101001], .bit5C),
    ([0b11001011, 0b01101010], .bit5D), ([0b11001011, 0b01101011], .bit5E),
    ([0b11001011, 0b01101100], .bit5H), ([0b11001011, 0b01101101], .bit5L),
    ([0b11001011, 0b01101110], .bit5IndHl), ([0b11001011, 0b01101111], .bit5A),
    ([0b11001011, 0b01110000], .bit6B), ([0b11001011, 0b01110001], .bit6C),
    ([0b11001011, 0b01110010], .bit6D), ([0b11001011, 0b01110011], .bit6E),
    ([0b11001011, 0b01110100], .bit6H), ([0b11001011, 0b01110101], .bit6L),
    ([0b11001011, 0b01110110], .bit6IndHl), ([0b11001011, 0b01110111], .bit6A),
    ([0b11001011, 0b01111000], .bit7B), ([0b11001011, 0b01111001], .bit7C),
    ([0b11001011, 0b01111010], .bit7D), ([0b11001011, 0b01111011], .bit7E),
    ([0b11001011, 0b01111100], .bit7H), ([0b11001011, 0b01111101], .bit7L),
    ([0b11001011, 0b01111110], .bit7IndHl), ([0b11001011, 0b01111111], .bit7A)]
    decodesTo = true := by decide

theorem test_decode_secondary_4 : List.all
   [([0b11001011, 0b10000000], .res0B), ([0b11001011, 0b10000001], .res0C),
    ([0b11001011, 0b10000010], .res0D), ([0b11001011, 0b10000011], .res0E),
    ([0b11001011, 0b10000100], .res0H), ([0b11001011, 0b10000101], .res0L),
    ([0b11001011, 0b10000110], .res0IndHl), ([0b11001011, 0b10000111], .res0A),
    ([0b11001011, 0b10001000], .res1B), ([0b11001011, 0b10001001], .res1C),
    ([0b11001011, 0b10001010], .res1D), ([0b11001011, 0b10001011], .res1E),
    ([0b11001011, 0b10001100], .res1H), ([0b11001011, 0b10001101], .res1L),
    ([0b11001011, 0b10001110], .res1IndHl), ([0b11001011, 0b10001111], .res1A),
    ([0b11001011, 0b10010000], .res2B), ([0b11001011, 0b10010001], .res2C),
    ([0b11001011, 0b10010010], .res2D), ([0b11001011, 0b10010011], .res2E),
    ([0b11001011, 0b10010100], .res2H), ([0b11001011, 0b10010101], .res2L),
    ([0b11001011, 0b10010110], .res2IndHl), ([0b11001011, 0b10010111], .res2A),
    ([0b11001011, 0b10011000], .res3B), ([0b11001011, 0b10011001], .res3C),
    ([0b11001011, 0b10011010], .res3D), ([0b11001011, 0b10011011], .res3E),
    ([0b11001011, 0b10011100], .res3H), ([0b11001011, 0b10011101], .res3L),
    ([0b11001011, 0b10011110], .res3IndHl), ([0b11001011, 0b10011111], .res3A)]
    decodesTo = true := by decide

theorem test_decode_secondary_5 : List.all
   [([0b11001011, 0b10100000], .res4B), ([0b11001011, 0b10100001], .res4C),
    ([0b11001011, 0b10100010], .res4D), ([0b11001011, 0b10100011], .res4E),
    ([0b11001011, 0b10100100], .res4H), ([0b11001011, 0b10100101], .res4L),
    ([0b11001011, 0b10100110], .res4IndHl), ([0b11001011, 0b10100111], .res4A),
    ([0b11001011, 0b10101000], .res5B), ([0b11001011, 0b10101001], .res5C),
    ([0b11001011, 0b10101010], .res5D), ([0b11001011, 0b10101011], .res5E),
    ([0b11001011, 0b10101100], .res5H), ([0b11001011, 0b10101101], .res5L),
    ([0b11001011, 0b10101110], .res5IndHl), ([0b11001011, 0b10101111], .res5A),
    ([0b11001011, 0b10110000], .res6B), ([0b11001011, 0b10110001], .res6C),
    ([0b11001011, 0b10110010], .res6D), ([0b11001011, 0b10110011], .res6E),
    ([0b11001011, 0b10110100], .res6H), ([0b11001011, 0b10110101], .res6L),
    ([0b11001011, 0b10110110], .res6IndHl), ([0b11001011, 0b10110111], .res6A),
    ([0b11001011, 0b10111000], .res7B), ([0b11001011, 0b10111001], .res7C),
    ([0b11001011, 0b10111010], .res7D), ([0b11001011, 0b10111011], .res7E),
    ([0b11001011, 0b10111100], .res7H), ([0b11001011, 0b10111101], .res7L),
    ([0b11001011, 0b10111110], .res7IndHl), ([0b11001011, 0b10111111], .res7A)]
    decodesTo = true := by decide

theorem test_decode_secondary_6 : List.all
   [([0b11001011, 0b11000000], .set0B), ([0b11001011, 0b11000001], .set0C),
    ([0b11001011, 0b11000010], .set0D), ([0b11001011, 0b11000011], .set0E),
    ([0b11001011, 0b11000100], .set0H), ([0b11001011, 0b11000101], .set0L),
    ([0b11001011, 0b11000110], .set0IndHl), ([0b11001011, 0b11000111], .set0A),
    ([0b11001011, 0b11001000], .set1B), ([0b11001011, 0b11001001], .set1C),
    ([0b11001011, 0b11001010], .set1D), ([0b11001011, 0b11001011], .set1E),
    ([0b11001011, 0b11001100], .set1H), ([0b11001011, 0b11001101], .set1L),
    ([0b11001011, 0b11001110], .set1IndHl), ([0b11001011, 0b11001111], .set1A),
    ([0b11001011, 0b11010000], .set2B), ([0b11001011, 0b11010001], .set2C),
    ([0b11001011, 0b11010010], .set2D), ([0b11001011, 0b11010011], .set2E),
    ([0b11001011, 0b11010100], .set2H), ([0b11001011, 0b11010101], .set2L),
    ([0b11001011, 0b11010110], .set2IndHl), ([0b11001011, 0b11010111], .set2A),
    ([0b11001011, 0b11011000], .set3B), ([0b11001011, 0b11011001], .set3C),
    ([0b11001011, 0b11011010], .set3D), ([0b11001011, 0b11011011], .set3E),
    ([0b11001011, 0b11011100], .set3H), ([0b11001011, 0b11011101], .set3L),
    ([0b11001011, 0b11011110], .set3IndHl), ([0b11001011, 0b11011111], .set3A)]
    decodesTo = true := by decide

theorem test_decode_secondary_7 : List.all
   [([0b11001011, 0b11100000], .set4B), ([0b11001011, 0b11100001], .set4C),
    ([0b11001011, 0b11100010], .set4D), ([0b11001011, 0b11100011], .set4E),
    ([0b11001011, 0b11100100], .set4H), ([0b11001011, 0b11100101], .set4L),
    ([0b11001011, 0b11100110], .set4IndHl), ([0b11001011, 0b11100111], .set4A),
    ([0b11001011, 0b11101000], .set5B), ([0b11001011, 0b11101001], .set5C),
    ([0b11001011, 0b11101010], .set5D), ([0b11001011, 0b11101011], .set5E),
    ([0b11001011, 0b11101100], .set5H), ([0b11001011, 0b11101101], .set5L),
    ([0b11001011, 0b11101110], .set5IndHl), ([0b11001011, 0b11101111], .set5A),
    ([0b11001011, 0b11110000], .set6B), ([0b11001011, 0b11110001], .set6C),
    ([0b11001011, 0b11110010], .set6D), ([0b11001011, 0b11110011], .set6E),
    ([0b11001011, 0b11110100], .set6H), ([0b11001011, 0b11110101], .set6L),
    ([0b11001011, 0b11110110], .set6IndHl), ([0b11001011, 0b11110111], .set6A),
    ([0b11001011, 0b11111000], .set7B), ([0b11001011, 0b11111001], .set7C),
    ([0b11001011, 0b11111010], .set7D), ([0b11001011, 0b11111011], .set7E),
    ([0b11001011, 0b11111100], .set7H), ([0b11001011, 0b11111101], .set7L),
    ([0b11001011, 0b11111110], .set7IndHl), ([0b11001011, 0b11111111], .set7A)]
    decodesTo = true := by decide

/-- The row PREFIX_CB: its byte and the next one are one instruction of the secondary map. -/
theorem test_decode_prefix_row : decodesTo ([0b11001011, 0b00110111], .swapA) = true := by decide

/-- A word as the opcode table numbers it, and the same word placed where the step fetches. -/
theorem test_table_words :
    decodeTableWord 8 0x80 = some .addAB ∧ decodeTableWord 16 0xCB37 = some .swapA ∧
    decodeTableWord 16 0x0506 = some (.ldBD8 0x05) ∧ decodeTableWord 24 0x2000CA = some (.jpZA16 0x2000) ∧
    decodeTableWord 8 0xDD = some (.illegal 0xDD) := by decide

/-! ### One step against the vectors of 95_test_vectors.md -/

/-- A vector: the instruction's bytes, the start state over zeros, the end state over the start state. -/
structure Vec where
  code : List Byte
  start : State → State
  finish : State → State

/-- The start state with the bytes at pc. -/
def Vec.first (v : Vec) : State :=
  let s := v.start State.reset
  s.writeBlock s.pc v.code

/-- The vector's end state is the model's. -/
def Vec.holds (v : Vec) : Bool :=
  match step v.first with
  | .next t => decide (t = v.finish v.first)
  | _ => false

/-- V40.1 to V40.13. -/
theorem test_arith_logic_0 : List.all (
    [⟨[0x80], fun s => { s with a := 0x3A, b := 0xC6 }, fun s => { s with a := 0x00, f := 0xB0, pc := 0x0101 }⟩,
     ⟨[0x80], fun s => { s with a := 0x08, b := 0x08 }, fun s => { s with a := 0x10, f := 0x20, pc := 0x0101 }⟩,
     ⟨[0x87], fun s => { s with a := 0x80 }, fun s => { s with a := 0x00, f := 0x90, pc := 0x0101 }⟩,
     ⟨[0x89], fun s => { s with a := 0x0F, c := 0x00, f := 0x10 },
      fun s => { s with a := 0x10, f := 0x20, pc := 0x0101 }⟩,
     ⟨[0x8F], fun s => { s with a := 0x80, f := 0x10 }, fun s => { s with a := 0x01, f := 0x10, pc := 0x0101 }⟩,
     ⟨[0xCE, 0xFF], fun s => { s with a := 0x00, f := 0x10 }, fun s => { s with a := 0x00, f := 0xB0, pc := 0x0102 }⟩,
     ⟨[0x90], fun s => { s with a := 0x00, b := 0x01 }, fun s => { s with a := 0xFF, f := 0x70, pc := 0x0101 }⟩,
     ⟨[0x97], fun s => { s with a := 0x42 }, fun s => { s with a := 0x00, f := 0xC0, pc := 0x0101 }⟩,
     ⟨[0x9F], fun s => { s with a := 0x42, f := 0x10 }, fun s => { s with a := 0xFF, f := 0x70, pc := 0x0101 }⟩,
     ⟨[0x9F], fun s => { s with a := 0x42, f := 0x00 }, fun s => { s with a := 0x00, f := 0xC0, pc := 0x0101 }⟩,
     ⟨[0xDE, 0x00], fun s => { s with a := 0x10, f := 0x10 }, fun s => { s with a := 0x0F, f := 0x60, pc := 0x0102 }⟩,
     ⟨[0xDE, 0xFF], fun s => { s with a := 0x00, f := 0x10 }, fun s => { s with a := 0x00, f := 0xF0, pc := 0x0102 }⟩,
     ⟨[0xA0], fun s => { s with a := 0xF0, b := 0x0F, f := 0x10 },
      fun s => { s with a := 0x00, f := 0xA0, pc := 0x0101 }⟩] : List Vec)
    Vec.holds = true := by decide

/-- V40.14 to V40.26. -/
theorem test_arith_logic_1 : List.all (
    [⟨[0xA8], fun s => { s with a := 0xFF, b := 0xFF, f := 0x70 },
      fun s => { s with a := 0x00, f := 0x80, pc := 0x0101 }⟩,
     ⟨[0xB0], fun s => { s with a := 0x00, b := 0x00, f := 0x70 },
      fun s => { s with a := 0x00, f := 0x80, pc := 0x0101 }⟩,
     ⟨[0xB8], fun s => { s with a := 0x01, b := 0x02 }, fun s => { s with a := 0x01, f := 0x70, pc := 0x0101 }⟩,
     ⟨[0xBF], fun s => { s with a := 0x99 }, fun s => { s with a := 0x99, f := 0xC0, pc := 0x0101 }⟩,
     ⟨[0xBE], fun s => { s.write 0xC000 0x10 with a := 0x10, h := 0xE0, l := 0x00 },
      fun s => { s with a := 0x10, f := 0xC0, pc := 0x0101 }⟩,
     ⟨[0x09], fun s => { s with h := 0x0F, l := 0xFF, b := 0x00, c := 0x01, f := 0x80 },
      fun s => { s with a := 0x00, f := 0xA0, h := 0x10, l := 0x00, pc := 0x0101 }⟩,
     ⟨[0x29], fun s => { s with h := 0x80, l := 0x00, f := 0x00 },
      fun s => { s with a := 0x00, f := 0x10, h := 0x00, l := 0x00, pc := 0x0101 }⟩,
     ⟨[0x19], fun s => { s with h := 0xFF, l := 0xFF, d := 0x00, e := 0x01, f := 0x40 },
      fun s => { s with a := 0x00, f := 0x30, h := 0x00, l := 0x00, pc := 0x0101 }⟩,
     ⟨[0x39], fun s => { s with h := 0x12, l := 0x34, sp := 0xFFFE },
      fun s => { s with a := 0x00, f := 0x30, h := 0x12, l := 0x32, pc := 0x0101 }⟩,
     ⟨[0xE8, 0xFF], fun s => { s with sp := 0x0000 },
      fun s => { s with a := 0x00, f := 0x00, sp := 0xFFFF, pc := 0x0102 }⟩,
     ⟨[0xE8, 0x01], fun s => { s with sp := 0x00FF, f := 0xC0 },
      fun s => { s with a := 0x00, f := 0x30, sp := 0x0100, pc := 0x0102 }⟩,
     ⟨[0xE8, 0x80], fun s => { s with sp := 0x0080 },
      fun s => { s with a := 0x00, f := 0x10, sp := 0x0000, pc := 0x0102 }⟩,
     ⟨[0xE8, 0x7F], fun s => { s with sp := 0xFFFE },
      fun s => { s with a := 0x00, f := 0x30, sp := 0x007D, pc := 0x0102 }⟩] : List Vec)
    Vec.holds = true := by decide

/-- V41.1 to V41.13. -/
theorem test_inc_dec_0 : List.all (
    [⟨[0x3C], fun s => { s with a := 0xFF, f := 0x10 }, fun s => { s with a := 0x00, f := 0xB0, pc := 0x0101 }⟩,
     ⟨[0x3C], fun s => { s with a := 0x0F, f := 0x00 }, fun s => { s with a := 0x10, f := 0x20, pc := 0x0101 }⟩,
     ⟨[0x04], fun s => { s with b := 0x7F, f := 0x40 },
      fun s => { s with a := 0x00, f := 0x20, b := 0x80, c := 0x00, pc := 0x0101 }⟩,
     ⟨[0x3D], fun s => { s with a := 0x01, f := 0x00 }, fun s => { s with a := 0x00, f := 0xC0, pc := 0x0101 }⟩,
     ⟨[0x3D], fun s => { s with a := 0x00, f := 0x10 }, fun s => { s with a := 0xFF, f := 0x70, pc := 0x0101 }⟩,
     ⟨[0x0D], fun s => { s with c := 0x10, f := 0x00 },
      fun s => { s with a := 0x00, f := 0x60, b := 0x00, c := 0x0F, pc := 0x0101 }⟩,
     ⟨[0x34], fun s => { s.write 0xC000 0xFF with h := 0xC0, l := 0x00 },
      fun s => { s.write 0xC000 0x00 with a := 0x00, f := 0xA0, pc := 0x0101 }⟩,
     ⟨[0x35], fun s => { s.write 0xC000 0x00 with h := 0xC0, l := 0x00 },
      fun s => { s.write 0xC000 0xFF with a := 0x00, f := 0x60, pc := 0x0101 }⟩,
     ⟨[0x03], fun s => { s with b := 0xFF, c := 0xFF, f := 0xA0 },
      fun s => { s with a := 0x00, f := 0xA0, b := 0x00, c := 0x00, pc := 0x0101 }⟩,
     ⟨[0x3B], fun s => { s with sp := 0x0000 }, fun s => { s with a := 0x00, f := 0x00, sp := 0xFFFF, pc := 0x0101 }⟩,
     ⟨[0x23], fun s => { s with h := 0x00, l := 0xFF },
      fun s => { s with a := 0x00, f := 0x00, h := 0x01, l := 0x00, pc := 0x0101 }⟩,
     ⟨[0x1B], fun s => { s with d := 0x01, e := 0x00 },
      fun s => { s with a := 0x00, f := 0x00, d := 0x00, e := 0xFF, pc := 0x0101 }⟩,
     ⟨[0x34], fun s => { s.write 0xDDF0 0x0F with h := 0xFD, l := 0xF0, f := 0x10 },
      fun s => { s.write 0xDDF0 0x10 with a := 0x00, f := 0x30, pc := 0x0101 }⟩] : List Vec)
    Vec.holds = true := by decide

/-- V42.1 to V42.10. -/
theorem test_bit_shift_0 : List.all (
    [⟨[0xCB, 0x37], fun s => { s with a := 0x00, f := 0x10 }, fun s => { s with a := 0x00, f := 0x80, pc := 0x0102 }⟩,
     ⟨[0xCB, 0x36], fun s => { s.write 0xC000 0xA5 with h := 0xC0, l := 0x00 },
      fun s => { s.write 0xC000 0x5A with a := 0x00, f := 0x00, pc := 0x0102 }⟩,
     ⟨[0xCB, 0x7F], fun s => { s with a := 0x7F, f := 0x10 }, fun s => { s with a := 0x7F, f := 0xB0, pc := 0x0102 }⟩,
     ⟨[0xCB, 0x7F], fun s => { s with a := 0x80, f := 0x00 }, fun s => { s with a := 0x80, f := 0x20, pc := 0x0102 }⟩,
     ⟨[0xCB, 0x2F], fun s => { s with a := 0x80 }, fun s => { s with a := 0xC0, f := 0x00, pc := 0x0102 }⟩,
     ⟨[0xCB, 0x11], fun s => { s with c := 0x80, f := 0x10 },
      fun s => { s with a := 0x00, f := 0x10, b := 0x00, c := 0x01, pc := 0x0102 }⟩,
     ⟨[0xCB, 0x19], fun s => { s with c := 0x01, f := 0x00 },
      fun s => { s with a := 0x00, f := 0x90, b := 0x00, c := 0x00, pc := 0x0102 }⟩,
     ⟨[0xCB, 0x3F], fun s => { s with a := 0x80 }, fun s => { s with a := 0x40, f := 0x00, pc := 0x0102 }⟩,
     ⟨[0xCB, 0x20], fun s => { s with b := 0x80 },
      fun s => { s with a := 0x00, f := 0x90, b := 0x00, c := 0x00, pc := 0x0102 }⟩,
     ⟨[0xCB, 0x87], fun s => { s with a := 0xFF, f := 0xF0 }, fun s => { s with a := 0xFE, f := 0xF0, pc := 0x0102 }⟩] : List Vec)
    Vec.holds = true := by decide

/-- V42.11 to V42.19. -/
theorem test_bit_shift_1 : List.all (
    [⟨[0xCB, 0xC7], fun s => { s with a := 0x00, f := 0xF0 }, fun s => { s with a := 0x01, f := 0xF0, pc := 0x0102 }⟩,
     ⟨[0xCB, 0x46], fun s => { s.write 0xC123 0x01 with h := 0xE1, l := 0x23 },
      fun s => { s with a := 0x00, f := 0x20, pc := 0x0102 }⟩,
     ⟨[0xCB, 0x0E], fun s => { s.write 0xC000 0x01 with h := 0xC0, l := 0x00 },
      fun s => { s.write 0xC000 0x80 with a := 0x00, f := 0x10, pc := 0x0102 }⟩,
     ⟨[0xCB, 0x03], fun s => { s with e := 0x80, f := 0x00 },
      fun s => { s with a := 0x00, f := 0x10, d := 0x00, e := 0x01, pc := 0x0102 }⟩,
     ⟨[0xCB, 0x3E], fun s => { s.write 0xC000 0x01 with h := 0xC0, l := 0x00 },
      fun s => { s.write 0xC000 0x00 with a := 0x00, f := 0x90, pc := 0x0102 }⟩,
     ⟨[0x07], fun s => { s with a := 0x00, f := 0x80 }, fun s => { s with a := 0x00, f := 0x00, pc := 0x0101 }⟩,
     ⟨[0x17], fun s => { s with a := 0x80, f := 0x00 }, fun s => { s with a := 0x00, f := 0x10, pc := 0x0101 }⟩,
     ⟨[0x1F], fun s => { s with a := 0x01, f := 0x10 }, fun s => { s with a := 0x80, f := 0x10, pc := 0x0101 }⟩,
     ⟨[0x0F], fun s => { s with a := 0x01 }, fun s => { s with a := 0x80, f := 0x10, pc := 0x0101 }⟩] : List Vec)
    Vec.holds = true := by decide

/-- V43.1 to V43.11. -/
theorem test_load_store_0 : List.all (
    [⟨[0x22], fun s => { s with a := 0x5A, h := 0xFF, l := 0xFF },
      fun s => { s.write 0xFFFF 0x5A with a := 0x5A, f := 0x00, h := 0x00, l := 0x00, pc := 0x0101 }⟩,
     ⟨[0x3A], fun s => { s.write 0x0000 0x77 with h := 0x00, l := 0x00 },
      fun s => { s with a := 0x77, f := 0x00, h := 0xFF, l := 0xFF, pc := 0x0101 }⟩,
     ⟨[0x2A], fun s => { s.write 0xC0FF 0x11 with h := 0xE0, l := 0xFF },
      fun s => { s with a := 0x11, f := 0x00, h := 0xE1, l := 0x00, pc := 0x0101 }⟩,
     ⟨[0x32], fun s => { s with a := 0x22, h := 0xC0, l := 0x00 },
      fun s => { s.write 0xC000 0x22 with a := 0x22, f := 0x00, h := 0xBF, l := 0xFF, pc := 0x0101 }⟩,
     ⟨[0xE0, 0x44], fun s => { s with a := 0x91 },
      fun s => { s.write 0xFF44 0x91 with a := 0x91, f := 0x00, pc := 0x0102 }⟩,
     ⟨[0xF0, 0x44], fun s => s.write 0xFF44 0x90, fun s => { s with a := 0x90, f := 0x00, pc := 0x0102 }⟩,
     ⟨[0xE2], fun s => { s with a := 0x01, c := 0x80 },
      fun s => { s.write 0xFF80 0x01 with a := 0x01, f := 0x00, pc := 0x0101 }⟩,
     ⟨[0xF2], fun s => { s.write 0xFF0F 0xE1 with c := 0x0F },
      fun s => { s with a := 0xE1, f := 0x00, pc := 0x0101 }⟩,
     ⟨[0x08, 0xFE, 0xFD], fun s => { s with sp := 0xBEEF },
      fun s => { (s.write 0xDDFE 0xEF).write 0xFDFF 0xBE with a := 0x00, f := 0x00, pc := 0x0103 }⟩,
     ⟨[0x08, 0xFF, 0xFF], fun s => { s with sp := 0x1234 },
      fun s => { (s.write 0x0000 0x12).write 0xFFFF 0x34 with a := 0x00, f := 0x00, pc := 0x0103 }⟩,
     ⟨[0xF8, 0xFF], fun s => { s with sp := 0x0001, f := 0xC0, h := 0xAA, l := 0xAA },
      fun s => { s with a := 0x00, f := 0x30, h := 0x00, l := 0x00, pc := 0x0102 }⟩] : List Vec)
    Vec.holds = true := by decide

/-- V43.12 to V43.22. -/
theorem test_load_store_1 : List.all (
    [⟨[0xF8, 0x08], fun s => { s with sp := 0xFFF8, h := 0xAA, l := 0xAA },
      fun s => { s with a := 0x00, f := 0x30, h := 0x00, l := 0x00, pc := 0x0102 }⟩,
     ⟨[0xF9], fun s => { s with h := 0xD0, l := 0x00 },
      fun s => { s with a := 0x00, f := 0x00, sp := 0xD000, pc := 0x0101 }⟩,
     ⟨[0xC5], fun s => { s with b := 0x12, c := 0x34, sp := 0x0001 },
      fun s => { (s.write 0x0000 0x12).write 0xFFFF 0x34 with a := 0x00, f := 0x00, sp := 0xFFFF, pc := 0x0101 }⟩,
     ⟨[0xF5], fun s => { s with a := 0x12, f := 0xF0, sp := 0xD000 },
      fun s => { (s.write 0xCFFE 0xF0).write 0xCFFF 0x12 with a := 0x12, f := 0xF0, sp := 0xCFFE, pc := 0x0101 }⟩,
     ⟨[0xF1], fun s => { (s.write 0xCFFE 0xFF).write 0xCFFF 0x12 with sp := 0xCFFE },
      fun s => { s with a := 0x12, f := 0xF0, sp := 0xD000, pc := 0x0101 }⟩,
     ⟨[0xE1], fun s => { (s.write 0xFFFF 0x34).write 0x0000 0x12 with sp := 0xFFFF },
      fun s => { s with a := 0x00, f := 0x00, h := 0x12, l := 0x34, sp := 0x0001, pc := 0x0101 }⟩,
     ⟨[0x36, 0x99], fun s => { s with h := 0xFD, l := 0xFE },
      fun s => { s.write 0xDDFE 0x99 with a := 0x00, f := 0x00, pc := 0x0102 }⟩,
     ⟨[0x36, 0x99], fun s => { s with h := 0xFD, l := 0xFF },
      fun s => { s.write 0xFDFF 0x99 with a := 0x00, f := 0x00, pc := 0x0102 }⟩,
     ⟨[0xEA, 0x00, 0xE0], fun s => { s with a := 0x3C },
      fun s => { s.write 0xC000 0x3C with a := 0x3C, f := 0x00, pc := 0x0103 }⟩,
     ⟨[0xFA, 0x10, 0xE0], fun s => s.write 0xC010 0x66, fun s => { s with a := 0x66, f := 0x00, pc := 0x0103 }⟩,
     ⟨[0x02], fun s => { s with a := 0x09, b := 0x80, c := 0x00 },
      fun s => { s.write 0x8000 0x09 with a := 0x09, f := 0x00, pc := 0x0101 }⟩] : List Vec)
    Vec.holds = true := by decide

/-- V43.23 to V43.33. -/
theorem test_load_store_2 : List.all (
    [⟨[0x1A], fun s => { s.write 0xC001 0x44 with d := 0xC0, e := 0x01 },
      fun s => { s with a := 0x44, f := 0x00, pc := 0x0101 }⟩,
     ⟨[0x21, 0x34, 0x12], id, fun s => { s with a := 0x00, f := 0x00, h := 0x12, l := 0x34, pc := 0x0103 }⟩,
     ⟨[0x31, 0xFE, 0xFF], fun s => { s with sp := 0x0000 },
      fun s => { s with a := 0x00, f := 0x00, sp := 0xFFFE, pc := 0x0103 }⟩,
     ⟨[0x70], fun s => { s with b := 0x70, h := 0xE0, l := 0x00 },
      fun s => { s.write 0xC000 0x70 with a := 0x00, f := 0x00, pc := 0x0101 }⟩,
     ⟨[0x66], fun s => { s.write 0xC000 0xAB with h := 0xC0, l := 0x00 },
      fun s => { s with a := 0x00, f := 0x00, h := 0xAB, l := 0x00, pc := 0x0101 }⟩,
     ⟨[0x6E], fun s => { s.write 0xC000 0xAB with h := 0xC0, l := 0x00 },
      fun s => { s with a := 0x00, f := 0x00, h := 0xC0, l := 0xAB, pc := 0x0101 }⟩,
     ⟨[0x41], fun s => { s with c := 0x77 },
      fun s => { s with a := 0x00, f := 0x00, b := 0x77, c := 0x77, pc := 0x0101 }⟩,
     ⟨[0x12], fun s => { s with a := 0x5E, d := 0xE8, e := 0x00 },
      fun s => { s.write 0xC800 0x5E with a := 0x5E, f := 0x00, pc := 0x0101 }⟩,
     ⟨[0x0A], fun s => { s.write 0xFF44 0x99 with b := 0xFF, c := 0x44 },
      fun s => { s with a := 0x99, f := 0x00, pc := 0x0101 }⟩,
     ⟨[0x06, 0xFF], id, fun s => { s with a := 0x00, f := 0x00, b := 0xFF, c := 0x00, pc := 0x0102 }⟩,
     ⟨[0xD1], fun s => { (s.write 0xFFFC 0xCD).write 0xFFFD 0xAB with sp := 0xFFFC },
      fun s => { s with a := 0x00, f := 0x00, d := 0xAB, e := 0xCD, sp := 0xFFFE, pc := 0x0101 }⟩] : List Vec)
    Vec.holds = true := by decide

/-- V44.1 to V44.12. -/
theorem test_control_flow_0 : List.all (
    [⟨[0xC3, 0x50, 0x01], id, fun s => { s with a := 0x00, f := 0x00, pc := 0x0150 }⟩,
     ⟨[0xCA, 0x00, 0x20], fun s => { s with f := 0x80 }, fun s => { s with a := 0x00, f := 0x80, pc := 0x2000 }⟩,
     ⟨[0xCA, 0x00, 0x20], fun s => { s with f := 0x00 }, fun s => { s with a := 0x00, f := 0x00, pc := 0x0103 }⟩,
     ⟨[0xD2, 0x34, 0x12], fun s => { s with f := 0x10 }, fun s => { s with a := 0x00, f := 0x10, pc := 0x0103 }⟩,
     ⟨[0xE9], fun s => { s with h := 0xC0, l := 0x00 }, fun s => { s with a := 0x00, f := 0x00, pc := 0xC000 }⟩,
     ⟨[0x18, 0xFE], id, fun s => { s with a := 0x00, f := 0x00, pc := 0x0100 }⟩,
     ⟨[0x18, 0x7F], id, fun s => { s with a := 0x00, f := 0x00, pc := 0x0181 }⟩,
     ⟨[0x18, 0x80], id, fun s => { s with a := 0x00, f := 0x00, pc := 0x0082 }⟩,
     ⟨[0x18, 0x01], fun s => { s with pc := 0xFFFE }, fun s => { s with a := 0x00, f := 0x00, pc := 0x0001 }⟩,
     ⟨[0x38, 0x10], fun s => { s with f := 0x00 }, fun s => { s with a := 0x00, f := 0x00, pc := 0x0102 }⟩,
     ⟨[0x38, 0x10], fun s => { s with f := 0x10 }, fun s => { s with a := 0x00, f := 0x10, pc := 0x0112 }⟩,
     ⟨[0x20, 0xF0], fun s => { s with f := 0x00 }, fun s => { s with a := 0x00, f := 0x00, pc := 0x00F2 }⟩] : List Vec)
    Vec.holds = true := by decide

/-- V44.13 to V44.23. -/
theorem test_control_flow_1 : List.all (
    [⟨[0xCD, 0x00, 0x40], fun s => { s with sp := 0xFFFE },
      fun s => { (s.write 0xFFFC 0x03).write 0xFFFD 0x01 with a := 0x00, f := 0x00, sp := 0xFFFC, pc := 0x4000 }⟩,
     ⟨[0xCD, 0x00, 0x40], fun s => { s with sp := 0x0000 },
      fun s => { (s.write 0xFFFE 0x03).write 0xFFFF 0x01 with a := 0x00, f := 0x00, sp := 0xFFFE, pc := 0x4000 }⟩,
     ⟨[0xDC, 0x00, 0x40], fun s => { s with f := 0x00 }, fun s => { s with a := 0x00, f := 0x00, pc := 0x0103 }⟩,
     ⟨[0xC4, 0x00, 0x40], fun s => { s with f := 0x00, sp := 0xD000 },
      fun s => { (s.write 0xCFFE 0x03).write 0xCFFF 0x01 with a := 0x00, f := 0x00, sp := 0xCFFE, pc := 0x4000 }⟩,
     ⟨[0xC9], fun s => { (s.write 0xCFFE 0x03).write 0xCFFF 0x01 with sp := 0xCFFE },
      fun s => { s with a := 0x00, f := 0x00, sp := 0xD000, pc := 0x0103 }⟩,
     ⟨[0xC8], fun s => { (s.write 0xCFFE 0x03).write 0xCFFF 0x01 with f := 0x00, sp := 0xCFFE },
      fun s => { s with a := 0x00, f := 0x00, pc := 0x0101 }⟩,
     ⟨[0xD8], fun s => { (s.write 0xCFFE 0x03).write 0xCFFF 0x01 with f := 0x10, sp := 0xCFFE },
      fun s => { s with a := 0x00, f := 0x10, sp := 0xD000, pc := 0x0103 }⟩,
     ⟨[0xD9], fun s => { (s.write 0xCFFE 0x00).write 0xCFFF 0x02 with sp := 0xCFFE },
      fun s => { s with a := 0x00, f := 0x00, sp := 0xD000, pc := 0x0200, ime := true }⟩,
     ⟨[0xFF], fun s => { s with sp := 0xD000 },
      fun s => { (s.write 0xCFFE 0x01).write 0xCFFF 0x01 with a := 0x00, f := 0x00, sp := 0xCFFE, pc := 0x0038 }⟩,
     ⟨[0xC7], fun s => { s with pc := 0x1234, sp := 0xD000 },
      fun s => { (s.write 0xCFFE 0x35).write 0xCFFF 0x12 with a := 0x00, f := 0x00, sp := 0xCFFE, pc := 0x0000 }⟩,
     ⟨[0xEF], fun s => { s with sp := 0xD000 },
      fun s => { (s.write 0xCFFE 0x01).write 0xCFFF 0x01 with a := 0x00, f := 0x00, sp := 0xCFFE, pc := 0x0028 }⟩] : List Vec)
    Vec.holds = true := by decide

/-- V45.1 to V45.16. -/
theorem test_misc_0 : List.all (
    [⟨[0x00], fun s => { s with a := 0x12, f := 0xF0 }, fun s => { s with a := 0x12, f := 0xF0, pc := 0x0101 }⟩,
     ⟨[0x76], fun s => { s with ime := false }, fun s => { s with a := 0x00, f := 0x00, pc := 0x0101 }⟩,
     ⟨[0x10, 0x00], id, fun s => { s with a := 0x00, f := 0x00, pc := 0x0102 }⟩,
     ⟨[0xF3], fun s => { s with ime := true }, fun s => { s with a := 0x00, f := 0x00, pc := 0x0101, ime := false }⟩,
     ⟨[0xFB], fun s => { s with ime := false }, fun s => { s with a := 0x00, f := 0x00, pc := 0x0101, ime := true }⟩,
     ⟨[0x27], fun s => { s with a := 0x7D, f := 0x00 }, fun s => { s with a := 0x83, f := 0x00, pc := 0x0101 }⟩,
     ⟨[0x27], fun s => { s with a := 0x9A, f := 0x00 }, fun s => { s with a := 0x00, f := 0x90, pc := 0x0101 }⟩,
     ⟨[0x27], fun s => { s with a := 0x0F, f := 0x60 }, fun s => { s with a := 0x09, f := 0x40, pc := 0x0101 }⟩,
     ⟨[0x27], fun s => { s with a := 0x00, f := 0x70 }, fun s => { s with a := 0x9A, f := 0x50, pc := 0x0101 }⟩,
     ⟨[0x27], fun s => { s with a := 0xA0, f := 0x00 }, fun s => { s with a := 0x00, f := 0x90, pc := 0x0101 }⟩,
     ⟨[0x27], fun s => { s with a := 0x80, f := 0x30 }, fun s => { s with a := 0xE6, f := 0x10, pc := 0x0101 }⟩,
     ⟨[0x27], fun s => { s with a := 0x00, f := 0x80 }, fun s => { s with a := 0x00, f := 0x80, pc := 0x0101 }⟩,
     ⟨[0x2F], fun s => { s with a := 0x35, f := 0x90 }, fun s => { s with a := 0xCA, f := 0xF0, pc := 0x0101 }⟩,
     ⟨[0x37], fun s => { s with f := 0xE0 }, fun s => { s with a := 0x00, f := 0x90, pc := 0x0101 }⟩,
     ⟨[0x3F], fun s => { s with f := 0x70 }, fun s => { s with a := 0x00, f := 0x00, pc := 0x0101 }⟩,
     ⟨[0x3F], fun s => { s with f := 0x80 }, fun s => { s with a := 0x00, f := 0x90, pc := 0x0101 }⟩] : List Vec)
    Vec.holds = true := by decide

/-- VM.1 to VM.7. -/
theorem test_memory_0 : List.all (
    [⟨[0xEA, 0x00, 0xE0], fun s => { s with a := 0x11 },
      fun s => { s.write 0xC000 0x11 with a := 0x11, f := 0x00, pc := 0x0103 }⟩,
     ⟨[0xFA, 0xFF, 0xDD], fun s => (s.write 0xFDFF 0x22).write 0xDDFF 0x33,
      fun s => { s with a := 0x33, f := 0x00, pc := 0x0103 }⟩,
     ⟨[0xFA, 0xFF, 0xFD], fun s => (s.write 0xFDFF 0x22).write 0xDDFF 0x33,
      fun s => { s with a := 0x22, f := 0x00, pc := 0x0103 }⟩,
     ⟨[0x77], fun s => { s with a := 0x44, h := 0xDF, l := 0xFF },
      fun s => { s.write 0xDFFF 0x44 with a := 0x44, f := 0x00, pc := 0x0101 }⟩,
     ⟨[0x77], fun s => { s with a := 0x44, h := 0xFF, l := 0xFF },
      fun s => { s.write 0xFFFF 0x44 with a := 0x44, f := 0x00, pc := 0x0101 }⟩,
     ⟨[0x77], fun s => { s with a := 0x44, h := 0x00, l := 0x00 },
      fun s => { s.write 0x0000 0x44 with a := 0x44, f := 0x00, pc := 0x0101 }⟩,
     ⟨[0xE5], fun s => { s with h := 0xAB, l := 0xCD, sp := 0xE001 },
      fun s => { (s.write 0xC000 0xAB).write 0xDFFF 0xCD with a := 0x00, f := 0x00, sp := 0xDFFF, pc := 0x0101 }⟩] : List Vec)
    Vec.holds = true := by decide

/-- E2.a to E2.e. -/
theorem test_add_law_0 : List.all (
    [⟨[0x80], fun s => { s with a := 0xFF, b := 0x01 }, fun s => { s with a := 0x00, f := 0xB0, pc := 0x0101 }⟩,
     ⟨[0x80], fun s => { s with a := 0x0F, b := 0x01 }, fun s => { s with a := 0x10, f := 0x20, pc := 0x0101 }⟩,
     ⟨[0x80], fun s => { s with a := 0xF0, b := 0x10 }, fun s => { s with a := 0x00, f := 0x90, pc := 0x0101 }⟩,
     ⟨[0x80], fun s => { s with a := 0x7F, b := 0x00 }, fun s => { s with a := 0x7F, f := 0x00, pc := 0x0101 }⟩,
     ⟨[0x80], fun s => { s with a := 0x88, b := 0x88 }, fun s => { s with a := 0x10, f := 0x30, pc := 0x0101 }⟩] : List Vec)
    Vec.holds = true := by decide

/-- E5.a to E5.b. -/
theorem test_conditional_jump_0 : List.all (
    [⟨[0xCA, 0x00, 0x20], fun s => { s with f := 0x80 }, fun s => { s with f := 0x80, pc := 0x2000 }⟩,
     ⟨[0xCA, 0x00, 0x20], fun s => { s with f := 0x00 }, fun s => { s with f := 0x00, pc := 0x0103 }⟩] : List Vec)
    Vec.holds = true := by decide

/-- E6.a to E6.c. -/
theorem test_bit_test_0 : List.all (
    [⟨[0xCB, 0x5F], fun s => { s with a := 0x08 }, fun s => { s with a := 0x08, f := 0x20, pc := 0x0102 }⟩,
     ⟨[0xCB, 0x5F], fun s => { s with a := 0x00 }, fun s => { s with a := 0x00, f := 0xA0, pc := 0x0102 }⟩,
     ⟨[0xCB, 0x5E], fun s => { s.write 0xC000 0x08 with h := 0xC0, l := 0x00 },
      fun s => { s with a := 0x00, f := 0x20, pc := 0x0102 }⟩] : List Vec)
    Vec.holds = true := by decide

/-! ### Faults -/

/-- VF.D3 to VF.FD: the fault record holds the byte and its address. -/
theorem test_faults : illegalBytes.all (fun op =>
    match step (({ State.reset with a := 0x12, f := 0xB0, sp := 0xD000 } : State).write 0x0100 op) with
    | .fault r => decide (r = .illegalOpcode op 0x0100) && r.cause == 1
    | _ => false) = true := by decide

/-- A term that no byte decodes to (60_exceptions.md rule R272). -/
theorem test_designator_fault : exec (.illegal 0x00) State.reset = .fault (.designatorFault 0x00 0x0100) := rfl

/-! ### Launch and host -/

theorem cartAccepted_replicate (n : Nat) (v : Byte) :
    cartAccepted (List.replicate n v) = (decide (0x8000 ≤ n) && (if 0x0147 < n then v else 0xFF) == 0x00) := by
  simp only [cartAccepted, List.length_replicate, List.getD_eq_getElem?_getD, List.getElem?_replicate]
  split <;> rfl

/-- VR.1: byte 0x0147 is 0x01. -/
theorem test_launch_refuses_banked_cartridge :
    launch (some (List.replicate 0x8000 0x01)) BootVram.zero ResetRegs.zero 0xFFFE Config.default =
      .refused .cartridgeRefused := by
  have h : cartAccepted (List.replicate 0x8000 0x01) = false := cartAccepted_replicate _ _
  simp only [launch, h, Bool.false_eq_true, if_false]

/-- VR.2: a 32 KiB image with byte 0x0147 = 0x00. -/
theorem test_launch_takes_rom_only :
    ∃ t, launch (some (List.replicate 0x8000 0x00)) BootVram.zero ResetRegs.zero 0xFFFE Config.default = .next t := by
  have h : cartAccepted (List.replicate 0x8000 0x00) = true := cartAccepted_replicate _ _
  exact ⟨_, by simp only [launch, h, if_true]; rfl⟩

/-- VR.3: a 16 KiB image. -/
theorem test_launch_refuses_short_image :
    launch (some (List.replicate 0x4000 0x00)) BootVram.zero ResetRegs.zero 0xFFFE Config.default =
      .refused .cartridgeRefused := by
  have h : cartAccepted (List.replicate 0x4000 0x00) = false := cartAccepted_replicate _ _
  simp only [launch, h, Bool.false_eq_true, if_false]

/-- VR.4: without a cartridge the core runs NOP from 0x0100. -/
theorem test_reset_runs_nop : step State.reset = .next { State.reset with pc := 0x0101 } := rfl

/-- P7 stopped by the host: `JR -2` comes back to itself. -/
theorem test_host_stop :
    let s := (State.reset.write 0x0100 0x18).write 0x0101 0xFE
    Run.events ⟨.running, some s⟩ [.step, .stop, .step] = ⟨.stopped, some s⟩ := by decide

/-- What step fetches is the placed word. -/
theorem test_fetch_words :
    (match step (State.reset.withFetchWord 24 0x2000C3) with | .next t => t.pc == 0x2000 | _ => false) = true ∧
    (match step (State.reset.withFetchWord 16 0xCB37) with | .next t => t.f == 0x80 && t.pc == 0x0102 | _ => false) = true ∧
    (match step (State.reset.withFetchWord 8 0xFD) with | .fault r => r == .illegalOpcode 0xFD 0x0100 | _ => false) = true := by
  decide

/-! ### Witnesses: states and operands that meet the hypotheses of each statement -/

/-- A state with every register set, memory in its canonical form, and pc at the last two addresses. -/
def sample : State :=
  { State.reset with
    a := 0x99, f := 0xF0, b := 0x01, c := 0x80, h := 0xE0, l := 0x00, sp := 0x0001, pc := 0xFFFE
    mem := [(0x0000, 0x01), (0xC000, 0xFF), (0xFFFE, 0x3C)] }

theorem test_witness_PushThenPopRestores : StackPair.af = .af ∧ sample.f &&& 0x0F = 0 := by decide

theorem test_witness_NopHaltStopOnlyAdvance :
    sample.cfg.stopLength = .two ∧ ({ sample with cfg := ⟨.one⟩ } : State).cfg.stopLength = .one := by decide

/-- STOP_LENGTH = 1 moves pc by one byte (45_flag_misc.md rule R252). -/
theorem test_stop_length_one :
    exec (.stop 0xA7) { sample with cfg := ⟨.one⟩ } = .next { sample with cfg := ⟨.one⟩, pc := 0xFFFF } := rfl

/-- The ends of the decimal range, from an immediate, a register and the byte at HL. -/
theorem test_witness_DaaGivesDecimalArithmetic :
    (99 < 100 ∧ 0 < 100 ∧ sample.a = bcd 99 ∧ sample.getSrc (.imm 0x00) = bcd 0) ∧
    (99 < 100 ∧ 99 < 100 ∧ sample.a = bcd 99 ∧ sample.getSrc (.reg .a) = bcd 99) ∧
    (0 < 100 ∧ 99 < 100 ∧ State.reset.a = bcd 0 ∧ (State.reset.write 0x0000 0x99).getSrc .indHl = bcd 99) := by decide

theorem test_witness_IllegalBytesFault :
    0xD3 ∈ ([0xD3, 0xDB, 0xDD, 0xE3, 0xE4, 0xEB, 0xEC, 0xED, 0xF4, 0xFC, 0xFD] : List Byte) ∧
    0xFD ∈ ([0xD3, 0xDB, 0xDD, 0xE3, 0xE4, 0xEB, 0xEC, 0xED, 0xF4, 0xFC, 0xFD] : List Byte) ∧
    (State.reset.write 0x0100 0xFD).read (State.reset.write 0x0100 0xFD).pc = 0xFD := by decide

/-- Addresses of other cells than those stored to, at the ends of the echo range and of memory. -/
theorem test_witness_StoreSpLittleEndian_and_PushStoresPairBelowSp :
    (echoTranslate 0xFFFE ≠ echoTranslate 0xFFFF ∧ echoTranslate 0xFFFE ≠ echoTranslate (0xFFFF + 1)) ∧
    (echoTranslate 0xFDFF ≠ echoTranslate (0xE001 - 1) ∧ echoTranslate 0xFDFF ≠ echoTranslate (0xE001 - 2)) := by decide

theorem test_witness_DecodeOfEncodeIsIdentity : (Instr.ldSpD16 0xFFFF).wf = true ∧ (Instr.illegal 0xFD).wf = true := by
  decide

theorem test_witness_StepRunsInstructionAtPc_read : decode (sample.readBlock sample.pc 3) = .ok (.incA, [0x00, 0x01]) := rfl

/-- The bytes of one instruction at 0xFFFE, 0xFFFF and 0x0000, and across the end of the echo range. -/
theorem test_witness_StepRunsInstructionAtPc_placed :
    (Instr.jpA16 0x0100).wf = true ∧
    placedAt ((sample.write 0xFFFE 0xC3).write 0x0000 0x01) 0xFFFE (encode (.jpA16 0x0100)) = true ∧
    placedAt ((sample.write 0xFDFE 0xCB).write 0xFDFF 0x37) 0xFDFE (encode .swapA) = true := by decide

theorem test_witness_StepKeepsStateInvariant :
    sample.inv = true ∧ step sample = .next { sample with a := 0x9A, f := 0x10, pc := 0xFFFF } := ⟨by decide, rfl⟩

theorem test_witness_launch_next (cfg : Config) :
    (∃ t, launch none ⟨[0x3C], [], []⟩ ⟨0x01, 0xFF, 0, 0, 0, 0, 0, 0⟩ 0xD000 cfg = .next t ∧ t.f = 0xF0) := ⟨_, rfl, rfl⟩

theorem test_witness_LaunchSetsRegisters :
    (ResetRegs.mk 0x01 0xB0 0x00 0x13 0x00 0xD8 0x01 0x4D).wf = true ∧
    ∃ t, launch none BootVram.zero ⟨0x01, 0xB0, 0x00, 0x13, 0x00, 0xD8, 0x01, 0x4D⟩ 0x0000 Config.default = .next t :=
  ⟨by decide, _, rfl⟩

theorem test_witness_LaunchFillsMemory :
    BootVram.zero.wf = true ∧
    (∃ t, launch none BootVram.zero ResetRegs.zero 0xFFFE Config.default = .next t) ∧
    (∃ t, launch (some (List.replicate 0x8000 0)) BootVram.zero ResetRegs.zero 0xFFFE Config.default = .next t) :=
  ⟨by simp [BootVram.wf, BootVram.zero, -List.reduceReplicate], ⟨_, rfl⟩, test_launch_takes_rom_only⟩

/-- The clauses' boundaries: 0x8000 bytes and 0x0147 = 0x00, one byte less, another byte there. -/
theorem test_witness_LaunchRefusesUnsupportedCartridge :
    (0x8000 ≤ (List.replicate 0x8000 (0 : Byte)).length ∧ (List.replicate 0x8000 (0 : Byte))[0x0147]? = some 0x00) ∧
    (List.replicate 0x7FFF (0 : Byte)).length < 0x8000 ∧
    (List.replicate 0x8000 (1 : Byte))[0x0147]? ≠ some 0x00 := by
  simp [-List.reduceReplicate]

/-- Addresses where LaunchFillsMemory says "zero everywhere else". -/
theorem test_witness_LaunchFillsMemory_rest :
    [0x9800, 0x9903, 0x9910, 0x9923, 0x9930, 0xFFFF].all (fun a => decide
      (0x9800 ≤ a ∧ ¬ (0x9904 ≤ a ∧ a ≤ 0x990F) ∧ ¬ (0x9924 ≤ a ∧ a ≤ 0x992F))) = true := by decide

/-- A conditional jump not taken, one taken, and an unconditional one, with pc past 0xFFFF. -/
theorem test_witness_PcIsNextOrTarget :
    ((Instr.jrNzE8 0x80).wf = true ∧ exec (.jrNzE8 0x80) sample = .next { sample with pc := 0x0000 }) ∧
    ((Instr.jrZE8 0x80).wf = true ∧ exec (.jrZE8 0x80) sample = .next { sample with pc := 0xFF80 }) ∧
    ((Instr.jpHl).wf = true ∧ alwaysJumps .jpHl = true ∧ exec .jpHl sample = .next { sample with pc := 0xE000 }) :=
  ⟨⟨rfl, rfl⟩, ⟨rfl, rfl⟩, rfl, rfl, rfl⟩

theorem test_witness_FlagsChangeOnlyWhereListed :
    exec .incA sample = .next { sample with a := 0x9A, f := 0x10, pc := 0xFFFF } ∧
    Flag.c ∉ writtenFlags (encode .incA) := ⟨rfl, by decide⟩

theorem test_witness_SpChangesOnlyWhereListed :
    exec .addHlSp sample = .next { sample with h := 0xE0, l := 0x01, f := 0x80, pc := 0xFFFF } ∧
    writesSp .addHlSp = false := ⟨rfl, rfl⟩

theorem test_witness_ImeChangesOnlyWhereListed :
    exec .halt { sample with ime := true } = .next { sample with ime := true, pc := 0xFFFF } ∧
    writesIme .halt = false := ⟨rfl, rfl⟩

/-- A store through the echo range leaves the bytes on both sides, a load leaves all. -/
theorem test_witness_MemoryFrameOfEveryInstruction :
    (exec .ldIndHlB sample = .next { sample with mem := [(0x0000, 0x01), (0xC000, 0x01), (0xFFFE, 0x3C)], pc := 0xFFFF } ∧
      storedAt sample .ldIndHlB = [0xE000] ∧
      ([0xDFFF, 0xE001, 0xFDFF] : List Word).all (fun b => echoTranslate b != echoTranslate 0xE000) = true) ∧
    (exec .ldBIndHl sample = .next { sample with b := 0xFF, pc := 0xFFFF } ∧ storedAt sample .ldBIndHl = []) :=
  ⟨⟨rfl, rfl, by decide⟩, rfl, rfl⟩

/-- The ends of the echo range, its neighbours, and pairs of addresses on the bounds of the two alias clauses. -/
theorem test_witness_EchoAliasesBothWays :
    (0 < 0x1DFF ∧ (sample.write 0xE000 0x5C).read 0xC000 = 0x5C) ∧
    (0x1DFE < 0x1DFF ∧ (sample.write 0xFDFE 0x5C).read 0xDDFE = 0x5C) ∧
    ([(0xDDFF, 0xFDFF), (0xBFFF, 0xDFFF), (0xC000, 0xDFFF), (0xDDFE, 0xFDFF), (0xDFFF, 0xFFFF), (0xE000, 0xDFFF),
      (0xFDFE, 0xDDFF), (0xFDFF, 0xDDFF), (0xFFFF, 0xDFFF)] : List (Nat × Nat)).all (fun p => decide
        (p.1 < 65536 ∧ p.2 < 65536 ∧ p.2 ≠ p.1 ∧ ¬ (0xC000 ≤ p.1 ∧ p.1 < 0xDDFF ∧ p.2 = p.1 + 0x2000) ∧
          ¬ (0xE000 ≤ p.1 ∧ p.1 < 0xFDFF ∧ p.2 = p.1 - 0x2000))) = true := by decide

theorem test_witness_HiddenCellsAreNeverWritten :
    hiddenCell 0xE000 = true ∧ hiddenCell 0xFDFE = true ∧
    step ((sample.write 0xFFFE 0x70)) = .next { (sample.write 0xFFFE 0x70).write 0xE000 0x01 with pc := 0xFFFF } :=
  ⟨rfl, rfl, rfl⟩

theorem test_witness_HiddenCellsAreNeverRead :
    agreeOutsideHidden State.reset { State.reset with mem := [(0xE000, 0x01), (0xFDFE, 0x02)] } := by
  refine ⟨rfl, fun a ha => ?_⟩
  show Memory.cell [(0xE000, 0x01), (0xFDFE, 0x02)] a = 0
  simp only [Memory.cell]
  split
  · subst_vars; exact absurd ha (by decide)
  · split
    · subst_vars; exact absurd ha (by decide)
    · rfl

theorem test_witness_FaultEndsRunWithStateKept :
    illegalBytes.contains ((sample.write 0xFFFE 0xFD).read sample.pc) = true := by decide

theorem test_witness_HostTimingAndDefaultStop :
    ({ sample with pc := 0xFFFF } : State).pc = 0xFFFF ∧ sample.pc ≠ 0xFFFF ∧
    step sample = .next { sample with a := 0x9A, f := 0x10, pc := 0xFFFF } := ⟨rfl, by decide, rfl⟩

end Sys2Proof.Tests
end

section
/-! PROOF. The decoder's outcomes (30_encoding.md rules R86 and R90): the eleven illegal bytes are the illegal cells of
group x = 3 and fault, and whatever the decoder gives for any other byte completes in every state. -/

namespace Sys2Proof.Machine

/-! ### The illegal bytes by their fields -/

/-- The cells of group x = 3 of the primary map that select no instruction, by the fields z and y (R81 and R86). -/
def illegalCell : (z y : Fin 8) → Bool
  | 3, y => y != 0 && y != 1 && y != 6 && y != 7
  | 4, y => y != 0 && y != 1 && y != 2 && y != 3
  | 5, y => y == 3 || y == 5 || y == 7
  | _, _ => false

theorem illegalBytes_contains_eq (o : Byte) :
    illegalBytes.contains o = (fieldX o == 3 && illegalCell (fieldZ o) (fieldY o)) := by
  revert o; decide

theorem decodeBytes_of_illegal {o : Byte} (h : illegalBytes.contains o = true) (b1 b2 : Byte) :
    decodeBytes o b1 b2 = .illegal o := by
  simp only [illegalBytes, List.contains_iff_mem, List.mem_cons, List.not_mem_nil, or_false] at h
  rcases h with rfl | rfl | rfl | rfl | rfl | rfl | rfl | rfl | rfl | rfl | rfl <;> rfl

/-! ### What an illegal byte answers -/

theorem exec_illegal_of_contains {op : Byte} (h : illegalBytes.contains op = true) (s : State) :
    exec (.illegal op) s = .fault (.illegalOpcode op s.pc) := if_pos h

theorem step_of_illegal {s : State} (h : illegalBytes.contains (s.read s.pc) = true) :
    step s = .fault (.illegalOpcode (s.read s.pc) s.pc) := by
  rw [step, decodeBytes_of_illegal h, exec_illegal_of_contains h]

/-! ### Instructions that complete -/

/-- The instruction answers a next state from every state: it neither faults nor is refused. -/
def Completes (i : Instr) : Prop := ∀ s : State, ∃ t, exec i s = .next t

/-- `illegal` faults for every byte it holds, with IllegalOpcode (R271) or DesignatorFault (R272). -/
theorem Completes.ne_illegal {i : Instr} (h : Completes i) (op : Byte) : i ≠ .illegal op := by
  rintro rfl
  obtain ⟨t, ht⟩ := h State.reset
  rw [exec_illegal, execIllegal] at ht
  split at ht <;> cases ht

/-- The secondary map has no illegal value (R86). -/
theorem completes_decodeSecondary (cbop : Byte) : Completes (decodeSecondary cbop) := by
  intro s
  unfold decodeSecondary
  split
  · exact ⟨_, exec_shift ..⟩
  · exact ⟨_, exec_bit ..⟩
  · exact ⟨_, exec_res ..⟩
  · exact ⟨_, exec_set ..⟩

theorem completes_decodeX0 (o b1 b2 : Byte) : Completes (decodeX0 o b1 b2) := by
  intro s
  unfold decodeX0
  repeat' split
  all_goals simp only [exec_nop, exec_ldIndA16Sp, exec_stop, exec_jrE8, exec_jrCond, exec_ldPair, exec_addHl,
    exec_storeA, exec_loadA, exec_inc16, exec_dec16, exec_inc8, exec_dec8, exec_ldReg, exec_ldIndHlD8, exec_rlca,
    exec_rrca, exec_rla, exec_rra, exec_daa, exec_cpl, exec_scf, exec_ccf, Host.Outcome.next.injEq, exists_eq']

theorem completes_decodeX1 (o : Byte) : Completes (decodeX1 o) := by
  intro s
  unfold decodeX1
  split
  · exact ⟨_, exec_ldReg ..⟩
  · exact ⟨_, exec_ldIndHl ..⟩
  · exact ⟨_, exec_halt s⟩

/-- In a cell that holds `illegal` the hypothesis is false; every other cell holds an instruction that completes. -/
theorem completes_decodeX3 {o : Byte} (h : illegalCell (fieldZ o) (fieldY o) = false) (b1 b2 : Byte) :
    Completes (decodeX3 o b1 b2) := by
  intro s
  have hcb := completes_decodeSecondary b1 s
  unfold decodeX3
  split
  all_goals simp_all [illegalCell, exec_retCond, exec_storeA, exec_addSpE8, exec_loadA, exec_ldHlSpE8, exec_ret,
    exec_reti, exec_jpHl, exec_ldSpHl, exec_pop, exec_jpCond, exec_jpA16, exec_di, exec_ei, exec_callCond,
    exec_callA16, exec_push, exec_alu, exec_rst]

/-- Outside the eleven bytes the primary map holds instructions that complete (R84 and R90). -/
theorem completes_decodeBytes {o : Byte} (h : illegalBytes.contains o = false) (b1 b2 : Byte) :
    Completes (decodeBytes o b1 b2) := by
  unfold decodeBytes
  split
  · exact completes_decodeX0 o b1 b2
  · exact completes_decodeX1 o
  · exact fun s => ⟨_, exec_alu ..⟩
  · next hx =>
    have hcell : illegalCell (fieldZ o) (fieldY o) = false := by
      rw [illegalBytes_contains_eq, hx] at h
      simpa using h
    exact completes_decodeX3 hcell b1 b2

/-! ### The statements -/

/-- Settles O37: an illegal byte decodes to `illegal`, which faults, and any other byte to an instruction that
completes. -/
theorem stepFaultsExactlyOnIllegalBytes : Obligations.StepFaultsExactlyOnIllegalBytes := by
  intro s
  cases h : illegalBytes.contains (s.read s.pc) with
  | true => exact .inl ⟨rfl, step_of_illegal h⟩
  | false => exact .inr ⟨rfl, completes_decodeBytes h _ _ s⟩

/-- Settles O36: the eleven bytes fault as an instruction and at pc, and the secondary map, which completes, has
none. -/
theorem illegalBytesFault : Obligations.IllegalBytesFault := by
  intro op s
  refine ⟨fun hmem => ?_, rfl, fun cbop => (completes_decodeSecondary cbop).ne_illegal op⟩
  have hop : illegalBytes.contains op = true := List.contains_iff_mem.2 hmem
  refine ⟨exec_illegal_of_contains hop s, ?_⟩
  rintro rfl
  exact step_of_illegal hop

end Sys2Proof.Machine
end

section
/-! PROOF. Arithmetic and logic (40_arith_logic.md): the results that the meanings compute in numbers and truncate,
said in the arithmetic of bit vectors, and what the ALU instructions and the 16-bit additions leave with them. -/

namespace Sys2Proof.Machine

/-! ### Truncated results -/

theorem ofNat_toNat_carry (cin : Bool) : BitVec.ofNat 8 cin.toNat = if cin then 1 else 0 := by
  cases cin <;> rfl

/-- `add8` (R101) with its sum modulo 256. -/
theorem add8_eq (a b : Byte) (cin : Bool) :
    add8 a b cin =
      let res := a + b + (if cin then 1 else 0)
      { res := res, z := res == 0, n := false
        h := decide (a.toNat % 16 + b.toNat % 16 + cin.toNat > 15)
        c := decide (a.toNat + b.toNat + cin.toNat > 255) } := by
  have hres : trunc8 (a.toNat + b.toNat + cin.toNat : Nat) = a + b + (if cin then 1 else 0) := by
    simp only [trunc8, BitVec.ofInt_natCast, BitVec.ofNat_add, BitVec.ofNat_toNat, BitVec.setWidth_eq,
      ofNat_toNat_carry]
  rw [add8, hres]
  rfl

/-- `sub8` (R102) with its difference modulo 256. -/
theorem sub8_eq (a b : Byte) (cin : Bool) :
    sub8 a b cin =
      let res := a - b - (if cin then 1 else 0)
      { res := res, z := res == 0, n := true
        h := decide (a.toNat % 16 < b.toNat % 16 + cin.toNat)
        c := decide (a.toNat < b.toNat + cin.toNat) } := by
  have hres : trunc8 (a.toNat - b.toNat - cin.toNat) = a - b - (if cin then 1 else 0) := by
    simp only [trunc8, Int.sub_eq_add_neg, BitVec.ofInt_add, BitVec.ofInt_neg, BitVec.ofInt_natCast,
      BitVec.ofNat_toNat, BitVec.setWidth_eq, BitVec.sub_eq_add_neg, ofNat_toNat_carry]
  rw [sub8, hres]
  rfl

/-- `add16` (R131) with its sum modulo 65536. -/
theorem add16_eq (x y : Word) :
    add16 x y =
      { res := x + y, h := decide (x.toNat % 4096 + y.toNat % 4096 > 0x0FFF)
        c := decide (x.toNat + y.toNat > 0xFFFF) } := by
  have hres : trunc16 (x.toNat + y.toNat : Nat) = x + y := by
    simp only [trunc16, BitVec.ofInt_natCast, BitVec.ofNat_add, BitVec.ofNat_toNat, BitVec.setWidth_eq]
  rw [add16, hres]

theorem sext_eq_toInt (e : Byte) : sext e = e.toInt := by
  simp only [sext, BitVec.toInt]
  split <;> split <;> omega

/-- The offset's number added to a word modulo 65536 is the addition of the sign-extended byte (R130). -/
theorem trunc16_toNat_add_sext (w : Word) (e : Byte) : trunc16 (w.toNat + sext e) = w + e.signExtend 16 := by
  rw [trunc16, BitVec.ofInt_add, BitVec.ofInt_natCast, BitVec.ofNat_toNat, BitVec.setWidth_eq, sext_eq_toInt,
    BitVec.signExtend]

/-- `spadd` (R130) with its sum modulo 65536. -/
theorem spadd_eq (sp : Word) (e : Byte) :
    spadd sp e =
      { res := sp + e.signExtend 16, h := decide (sp.toNat % 16 + e.toNat % 16 > 15)
        c := decide (sp.toNat % 256 + e.toNat > 255) } := by
  rw [spadd, trunc16_toNat_add_sext]
  rfl

/-! ### The ALU instructions -/

theorem encode_ofAlu (op : AluOp) (src : Src8) : encode (.ofAlu op src) = aluBytes op src := by
  rcases src with r | _ | n
  · cases op <;> cases r <;> rfl
  · cases op <;> rfl
  · cases op <;> rfl

theorem aluFn_add_or_adc (withCarry : Bool) (x y : Byte) (cin : Bool) :
    aluFn (if withCarry then .adc else .add) x y cin = add8 x y (withCarry && cin) := by
  cases withCarry <;> rfl

theorem aluFn_sub_or_sbc (withCarry : Bool) (x y : Byte) (cin : Bool) :
    aluFn (if withCarry then .sbc else .sub) x y cin = sub8 x y (withCarry && cin) := by
  cases withCarry <;> rfl

/-- Every operation but CP writes its result to A. -/
theorem exec_ofAlu_of_ne_cp {op : AluOp} (hop : op ≠ .cp) {src : Src8} {s : State} {r : AluOut}
    (hr : aluFn op s.a (s.getSrc src) (s.flag .c) = r) :
    exec (.ofAlu op src) s = .next { s with
      a := r.res, f := flagByte r.z r.n r.h r.c, pc := s.pc + BitVec.ofNat 16 (srcWidth src) } := by
  simp only [exec_alu, alu_eq, hr, if_neg hop, State.nextPc_eq]

theorem exec_ofAlu_cp (src : Src8) (s : State) :
    exec (.ofAlu .cp src) s =
      let r := sub8 s.a (s.getSrc src) false
      .next { s with f := flagByte r.z r.n r.h r.c, pc := s.pc + BitVec.ofNat 16 (srcWidth src) } := by
  simp only [exec_alu, alu_eq, aluFn, if_true, State.nextPc_eq]

theorem sub_beq_zero (x y : Byte) : (x - y == 0) = (x == y) := by
  rw [Bool.eq_iff_iff, beq_iff_eq, beq_iff_eq, sub_eq_zero]

/-! ### The statements -/

/-- Settles O1: both operations are `add8`, with the carry flag for ADC. -/
theorem addAndAdcResultFlagsFrame : Obligations.AddAndAdcResultFlagsFrame := by
  intro withCarry src s op cin y res
  have hop : op ≠ .cp := by cases withCarry <;> decide
  have hr := (aluFn_add_or_adc withCarry s.a y (s.flag .c)).trans (add8_eq ..)
  exact ⟨encode_ofAlu op src, exec_ofAlu_of_ne_cp hop hr⟩

/-- Settles O2: both operations are `sub8`, with the carry flag for SBC. -/
theorem subAndSbcResultFlagsFrame : Obligations.SubAndSbcResultFlagsFrame := by
  intro withCarry src s op cin y res
  have hop : op ≠ .cp := by cases withCarry <;> decide
  have hr := (aluFn_sub_or_sbc withCarry s.a y (s.flag .c)).trans (sub8_eq ..)
  exact ⟨encode_ofAlu op src, exec_ofAlu_of_ne_cp hop hr⟩

/-- Settles O6: both forms take their word and flags from `spadd`. -/
theorem spPlusOffsetResultFlagsFrame : Obligations.SpPlusOffsetResultFlagsFrame := by
  intro e s res fl
  refine ⟨rfl, rfl, ?_, ?_⟩
  · rw [exec_addSpE8, addSp_eq, spadd_eq, State.nextPc_eq]
    rfl
  · rw [exec_ldHlSpE8, ldHlFromSp_eq, spadd_eq, State.nextPc_eq]
    rfl

/-- Settles O3: the three functions compute on bytes as the statement does. -/
theorem andXorOrResultFlagsFrame : Obligations.AndXorOrResultFlagsFrame := by
  intro src s y next
  refine ⟨encode_ofAlu .and src, encode_ofAlu .xor src, encode_ofAlu .or src, ?_, ?_, ?_⟩
  · exact exec_ofAlu_of_ne_cp (op := .and) (by decide) rfl
  · exact exec_ofAlu_of_ne_cp (op := .xor) (by decide) rfl
  · exact exec_ofAlu_of_ne_cp (op := .or) (by decide) rfl

/-- Settles O4: CP has the flags of `sub8` without a carry, whose difference is zero exactly when A is the source. -/
theorem cpWritesOnlyFlags : Obligations.CpWritesOnlyFlags := by
  intro src s y
  have hz : (s.a - y - 0 == 0) = (s.a == y) := by rw [sub_zero, sub_beq_zero]
  refine ⟨encode_ofAlu .cp src, ?_⟩
  rw [exec_ofAlu_cp, sub8_eq, ← hz]
  rfl

/-- Settles O5: the word is `add16`'s, and Z stays. -/
theorem addHlPairResultFlagsFrame : Obligations.AddHlPairResultFlagsFrame := by
  intro p s y res
  refine ⟨by cases p <;> rfl, ?_⟩
  rw [exec_addHl, addHl_eq, add16_eq, State.nextPc_eq]
  rfl

end Sys2Proof.Machine
end

section
/-! PROOF. INC and DEC (41_inc_dec.md): the counted results as sums and differences of bit vectors, the next state of
both widths, and the two orders that give the operand back. -/

namespace Sys2Proof.Machine

/-! ### Results and half-carries -/

theorem trunc8_add_one (v : Byte) : trunc8 (v.toNat + 1) = v + 1 := by
  rw [trunc8, BitVec.ofInt_add, BitVec.ofInt_natCast, BitVec.ofNat_toNat, BitVec.setWidth_eq]
  rfl

theorem trunc8_sub_one (v : Byte) : trunc8 (v.toNat - 1) = v - 1 := by
  rw [trunc8, Int.sub_eq_add_neg, BitVec.ofInt_add, BitVec.ofInt_natCast, BitVec.ofNat_toNat, BitVec.setWidth_eq,
    BitVec.sub_eq_add_neg]
  rfl

theorem toNat_and_0F (v : Byte) : (v &&& 0x0F).toNat = lowNibble v :=
  (BitVec.toNat_and ..).trans (Nat.and_two_pow_sub_one_eq_mod v.toNat 4)

/-- The half-carry tests compare the low four bits, as a number or as a masked byte. -/
theorem decide_lowNibble_eq (v n : Byte) : decide (lowNibble v = n.toNat) = (v &&& 0x0F == n) := by
  rw [← toNat_and_0F, Bool.eq_iff_iff, decide_eq_true_iff, beq_iff_eq, BitVec.toNat_inj]

/-! ### Reading an operand that was written -/

theorem State.get8_set8_same (s : State) (k : Operand8) (v : Byte) : (s.set8 k v).get8 k = v := by
  cases k with
  | reg r => exact (State.getReg_setReg s r r v).trans (if_pos rfl)
  | indHl => exact (State.read_write s s.hl s.hl v).trans (if_pos rfl)

/-! ### The 8-bit forms -/

/-- The next state of an 8-bit INC or DEC: the result in the operand, Z from it, N and H as given, C kept. -/
def afterIncDec (s : State) (k : Operand8) (res : Byte) (n h : Bool) : State :=
  { s.set8 k res with f := flagByte (res == 0) n h (s.flag .c), pc := s.pc + 1 }

section
variable (s : State) (k : Operand8) (res : Byte) (n h : Bool)

@[simp] theorem get8_afterIncDec : (afterIncDec s k res n h).get8 k = res := by
  have hkeep : (afterIncDec s k res n h).get8 k = (s.set8 k res).get8 k := by cases k <;> rfl
  rw [hkeep, State.get8_set8_same]

@[simp] theorem f_afterIncDec : (afterIncDec s k res n h).f = flagByte (res == 0) n h (s.flag .c) := rfl

@[simp] theorem carry_afterIncDec : (afterIncDec s k res n h).flag .c = s.flag .c := by
  rw [State.flag_eq, f_afterIncDec, flagOf_flagByte]

end

theorem encode_ofInc8 (k : Operand8) : encode (.ofInc8 k) = [BitVec.ofNat 8 (0x04 + 8 * k.code)] := by
  cases k with
  | reg r => cases r <;> rfl
  | indHl => rfl

theorem encode_ofDec8 (k : Operand8) : encode (.ofDec8 k) = [BitVec.ofNat 8 (0x05 + 8 * k.code)] := by
  cases k with
  | reg r => cases r <;> rfl
  | indHl => rfl

theorem exec_ofInc8 (k : Operand8) (s : State) :
    exec (.ofInc8 k) s = .next (afterIncDec s k (s.get8 k + 1) false (s.get8 k &&& 0x0F == 0x0F)) := by
  rw [exec_inc8, inc8_eq, trunc8_add_one, State.nextPc_eq, ← decide_lowNibble_eq]
  rfl

theorem exec_ofDec8 (k : Operand8) (s : State) :
    exec (.ofDec8 k) s = .next (afterIncDec s k (s.get8 k - 1) true (s.get8 k &&& 0x0F == 0x00)) := by
  rw [exec_dec8, dec8_eq, trunc8_sub_one, State.nextPc_eq, ← decide_lowNibble_eq]
  rfl

/-! ### The pair forms -/

/-- The next state of a 16-bit INC or DEC: the pair written, F left alone. -/
def afterPairMove (s : State) (p : Pair) (res : Word) : State := { s.setPair p res with pc := s.pc + 1 }

@[simp] theorem getPair_afterPairMove (s : State) (p : Pair) (res : Word) :
    (afterPairMove s p res).getPair p = res := by
  have hkeep : (afterPairMove s p res).getPair p = (s.setPair p res).getPair p := by cases p <;> rfl
  rw [hkeep, State.getPair_setPair, if_pos rfl]

@[simp] theorem f_afterPairMove (s : State) (p : Pair) (res : Word) : (afterPairMove s p res).f = s.f :=
  State.f_setPair s p res

theorem exec_ofInc16 (p : Pair) (s : State) :
    exec (.ofInc16 p) s = .next (afterPairMove s p (s.getPair p + 1)) := by
  rw [exec_inc16, inc16_eq, State.nextPc_eq]
  rfl

theorem exec_ofDec16 (p : Pair) (s : State) :
    exec (.ofDec16 p) s = .next (afterPairMove s p (s.getPair p - 1)) := by
  rw [exec_dec16, dec16_eq, State.nextPc_eq]
  rfl

/-! ### The statements -/

/-- Settles O9: the second instruction reads what the first wrote, and adding and subtracting one cancel. -/
theorem incDecRing : Obligations.IncDecRing := by
  refine ⟨fun k s => ⟨?_, ?_⟩, fun p s => ⟨?_, ?_⟩⟩
  · refine ⟨_, _, exec_ofInc8 k s, exec_ofDec8 k _, ?_, ?_⟩
    · rw [get8_afterIncDec, get8_afterIncDec, add_sub_cancel_right]
    · rw [f_afterIncDec, carry_afterIncDec, get8_afterIncDec, add_sub_cancel_right]
  · refine ⟨_, _, exec_ofDec8 k s, exec_ofInc8 k _, ?_, ?_⟩
    · rw [get8_afterIncDec, get8_afterIncDec, sub_add_cancel]
    · rw [f_afterIncDec, carry_afterIncDec, get8_afterIncDec, sub_add_cancel]
  · refine ⟨_, _, exec_ofInc16 p s, exec_ofDec16 p _, ?_, ?_⟩
    · rw [getPair_afterPairMove, getPair_afterPairMove, add_sub_cancel_right]
    · rw [f_afterPairMove, f_afterPairMove]
  · refine ⟨_, _, exec_ofDec16 p s, exec_ofInc16 p _, ?_, ?_⟩
    · rw [getPair_afterPairMove, getPair_afterPairMove, sub_add_cancel]
    · rw [f_afterPairMove, f_afterPairMove]

/-- Settles O7: the next state is `afterIncDec`'s for both instructions. -/
theorem incDecByteResultFlagsFrame : Obligations.IncDecByteResultFlagsFrame := by
  intro k s v
  exact ⟨encode_ofInc8 k, encode_ofDec8 k, exec_ofInc8 k s, exec_ofDec8 k s⟩

/-- Settles O8: the next state is `afterPairMove`'s for both instructions. -/
theorem incDecPairResultFrame : Obligations.IncDecPairResultFrame := by
  intro p s
  exact ⟨by cases p <;> rfl, by cases p <;> rfl, exec_ofInc16 p s, exec_ofDec16 p s⟩

end Sys2Proof.Machine
end

section
/-! PROOF. Rotates, shifts and bits (42_bit_rotate_shift.md): the shift function's results as rotations, sums and
arithmetic shifts of bit vectors, the single-bit masks of RES and SET, and the next states they give. -/

namespace Sys2Proof.Machine

/-! ### The bytes -/

theorem encode_ofShift (op : ShiftOp) (k : Operand8) : encode (.ofShift op k) = cbBytes 0 op.code k := by
  cases k with
  | reg r => cases op <;> cases r <;> rfl
  | indHl => cases op <;> rfl

theorem encode_ofBit (b : Fin 8) (k : Operand8) : encode (.ofBit b k) = cbBytes 1 b.val k := by
  cases k with
  | reg r => fin_cases b <;> cases r <;> rfl
  | indHl => fin_cases b <;> rfl

theorem encode_ofRes (b : Fin 8) (k : Operand8) : encode (.ofRes b k) = cbBytes 2 b.val k := by
  cases k with
  | reg r => fin_cases b <;> cases r <;> rfl
  | indHl => fin_cases b <;> rfl

theorem encode_ofSet (b : Fin 8) (k : Operand8) : encode (.ofSet b k) = cbBytes 3 b.val k := by
  cases k with
  | reg r => fin_cases b <;> cases r <;> rfl
  | indHl => fin_cases b <;> rfl

/-! ### The bit that moves in -/

theorem setWidth_ofBool (cin : Bool) : (BitVec.ofBool cin).setWidth 8 = if cin then 1 else 0 := by
  cases cin <;> rfl

theorem ofBool_bit7 (v : Byte) : (BitVec.ofBool (v.getLsbD 7)).setWidth 8 = v >>> 7 := by
  ext i hi
  cases i with
  | zero => simp
  | succ i => simp [BitVec.getLsbD_of_ge v (7 + (i + 1)) (by omega)]

theorem ofBool_bit0 (v : Byte) : (BitVec.ofBool (v.getLsbD 0)).setWidth 8 <<< 7 = v <<< 7 := by
  ext i hi
  obtain hlt | rfl : i < 7 ∨ i = 7 := by omega
  · simp [hlt]
  · simp

theorem shiftLeft_one_eq_add_self (v : Byte) : v <<< 1 = v + v := by
  rw [BitVec.shiftLeft_eq_mul_twoPow, BitVec.mul_comm]
  exact BitVec.two_mul

/-- A left shift leaves bit 0 free, so a bit that moves in there is added. -/
theorem shiftLeft_one_or (v : Byte) (cin : Bool) :
    v <<< 1 ||| (if cin then 1 else 0) = v + v + (if cin then 1 else 0) := by
  have hfree : v <<< 1 &&& (if cin then 1 else 0) = 0 := by
    cases cin
    · simp
    · ext i hi
      cases i with
      | zero => simp
      | succ i => simp
  rw [← shiftLeft_one_eq_add_self, BitVec.add_eq_or_of_and_eq_zero _ _ hfree]

/-- A right shift leaves bit 7 free, so a bit that moves in there is added. -/
theorem ushiftRight_one_or (v x : Byte) : v >>> 1 ||| x <<< 7 = (v >>> 1) + (x <<< 7) := by
  have hfree : v >>> 1 &&& x <<< 7 = 0 := by
    ext i hi
    obtain hlt | rfl : i < 7 ∨ i = 7 := by omega
    · simp [hlt]
    · simp
  rw [BitVec.add_eq_or_of_and_eq_zero _ _ hfree]

/-- Keeping bit 7 beside a right shift is an arithmetic shift. -/
theorem ushiftRight_one_or_bit7 (v : Byte) : v >>> 1 ||| v &&& 0x80 = v.sshiftRight 1 := by
  have hmask : (0x80 : Byte) = BitVec.twoPow 8 7 := rfl
  ext i hi
  rw [hmask, BitVec.getElem_sshiftRight]
  obtain hlt | rfl : i < 7 ∨ i = 7 := by omega
  · simp [BitVec.getElem_twoPow, show 1 + i < 8 by omega, show i ≠ 7 by omega]
  · simp [BitVec.msb_eq_getLsbD_last]

/-- The upper nibble that SWAP masks off is shifted out in any case. -/
theorem and_0F_shiftLeft_four (v : Byte) : (v &&& 0x0F) <<< 4 = v <<< 4 := by
  apply BitVec.eq_of_toNat_eq
  rw [BitVec.toNat_shiftLeft, BitVec.toNat_shiftLeft, toNat_and_0F, lowNibble, Nat.shiftLeft_eq, Nat.shiftLeft_eq]
  omega

/-! ### The shift function (R151) -/

section
variable (v : Byte) (cin : Bool)

theorem shiftFn_rlc : shiftFn .rlc v cin = (v.rotateLeft 1, v.getLsbD 7) := by
  simp only [shiftFn, ofBool_bit7, BitVec.rotateLeft_def, Nat.reduceMod, Nat.reduceSub]

theorem shiftFn_rrc : shiftFn .rrc v cin = (v.rotateRight 1, v.getLsbD 0) := by
  simp only [shiftFn, ofBool_bit0, BitVec.rotateRight_def, Nat.reduceMod, Nat.reduceSub]

theorem shiftFn_rl : shiftFn .rl v cin = (v + v + (if cin then 1 else 0), v.getLsbD 7) := by
  simp only [shiftFn, setWidth_ofBool, shiftLeft_one_or]

theorem shiftFn_rr : shiftFn .rr v cin = ((v >>> 1) + ((if cin then (1 : Byte) else 0) <<< 7), v.getLsbD 0) := by
  simp only [shiftFn, setWidth_ofBool, ushiftRight_one_or]

theorem shiftFn_sla : shiftFn .sla v cin = (v + v, v.getLsbD 7) := by
  rw [← shiftLeft_one_eq_add_self]
  rfl

theorem shiftFn_sra : shiftFn .sra v cin = (v.sshiftRight 1, v.getLsbD 0) := by
  rw [← ushiftRight_one_or_bit7]
  rfl

theorem shiftFn_swap : shiftFn .swap v cin = (v.rotateLeft 4, false) := by
  simp only [shiftFn, and_0F_shiftLeft_four, BitVec.rotateLeft_def, Nat.reduceMod, Nat.reduceSub]

theorem shiftFn_srl : shiftFn .srl v cin = (v >>> 1, v.getLsbD 0) := rfl

end

/-! ### The next states -/

theorem exec_ofShift {op : ShiftOp} {k : Operand8} {s : State} {res : Byte} {out : Bool}
    (h : shiftFn op (s.get8 k) (s.flag .c) = (res, out)) :
    exec (.ofShift op k) s = .next (afterShift s k res out) := by
  rw [exec_shift, shift_eq, h, State.nextPc_eq]
  rfl

theorem rotateA_of_shiftFn {op : ShiftOp} {s : State} {res : Byte} {out : Bool}
    (h : shiftFn op s.a (s.flag .c) = (res, out)) :
    rotateA op s = { s with a := res, f := flagByte false false false out, pc := s.pc + 1 } := by
  rw [rotateA_eq, h, State.nextPc_eq]
  rfl

/-- RES and SET write the operand and pc only. -/
theorem State.advance_set8 (s : State) (k : Operand8) (v : Byte) (n : Nat) :
    (s.set8 k v).advance n = { s.set8 k v with pc := s.pc + BitVec.ofNat 16 n } := by
  rw [State.advance, State.nextPc_eq, State.pc_set8]

/-! ### The masks of RES and SET -/

theorem natCast_one_shiftLeft (n : Nat) : ((1 <<< n : Nat) : Byte) = BitVec.twoPow 8 n := by
  apply BitVec.eq_of_toNat_eq
  rw [BitVec.natCast_eq_ofNat, BitVec.toNat_ofNat, Nat.one_shiftLeft, BitVec.toNat_twoPow]

theorem getLsbD_and_mask (v : Byte) (b : Fin 8) (i : Nat) :
    (v &&& (0xFF ^^^ (1 <<< b.val : Nat))).getLsbD i = (v.getLsbD i && i != b.val) := by
  have hones : ((0xFF : Nat) : Byte) = BitVec.allOnes 8 := rfl
  rw [natCast_one_shiftLeft, hones, BitVec.allOnes_xor, BitVec.getLsbD_and, BitVec.getLsbD_not, BitVec.getLsbD_twoPow]
  by_cases hi : i < 8
  · simp [hi, bne, beq_eq_decide, eq_comm]
  · simp [BitVec.getLsbD_of_ge v i (by omega)]

theorem getLsbD_or_mask (v : Byte) (b : Fin 8) (i : Nat) :
    (v ||| (1 <<< b.val : Nat)).getLsbD i = (v.getLsbD i || i == b.val) := by
  rw [natCast_one_shiftLeft, BitVec.getLsbD_or, BitVec.getLsbD_twoPow]
  simp [beq_eq_decide, eq_comm]

/-! ### The statements -/

/-- Settles O10: `shiftFn` rotates, and RL and RR take the old C into the free bit. -/
theorem prefixedRotatesResultFlagsFrame : Obligations.PrefixedRotatesResultFlagsFrame := by
  intro k s v cin
  exact ⟨encode_ofShift .rlc k, encode_ofShift .rrc k, encode_ofShift .rl k, encode_ofShift .rr k,
    exec_ofShift (shiftFn_rlc ..), exec_ofShift (shiftFn_rrc ..), exec_ofShift (shiftFn_rl ..),
    exec_ofShift (shiftFn_rr ..)⟩

/-- Settles O11: `shiftFn` doubles for SLA, keeps the sign for SRA, and SWAP is a rotation by four. -/
theorem prefixedShiftsResultFlagsFrame : Obligations.PrefixedShiftsResultFlagsFrame := by
  intro k s v
  exact ⟨encode_ofShift .sla k, encode_ofShift .sra k, encode_ofShift .swap k, encode_ofShift .srl k,
    exec_ofShift (shiftFn_sla ..), exec_ofShift (shiftFn_sra ..), exec_ofShift (shiftFn_swap ..),
    exec_ofShift (shiftFn_srl ..)⟩

/-- Settles O12: the four are `rotateA` with the prefixed rotates' results. -/
theorem accumulatorRotatesClearZ : Obligations.AccumulatorRotatesClearZ := by
  intro s cin out7 out0
  refine ⟨rfl, rfl, rfl, rfl, ?_, ?_, ?_, ?_⟩
  · rw [exec_rlca, rotateA_of_shiftFn (shiftFn_rlc ..)]
  · rw [exec_rrca, rotateA_of_shiftFn (shiftFn_rrc ..)]
  · rw [exec_rla, rotateA_of_shiftFn (shiftFn_rl ..)]
  · rw [exec_rra, rotateA_of_shiftFn (shiftFn_rr ..)]

/-- Settles O13: BIT sets three flags and moves pc. -/
theorem bitTestsWithoutWriting : Obligations.BitTestsWithoutWriting := by
  intro b k s
  refine ⟨encode_ofBit b k, ?_⟩
  rw [exec_bit, bitTest_eq, State.nextPc_eq]
  rfl

/-- Settles O14: the written bytes are the operand without and with the bit of the mask. -/
theorem resAndSetChangeOneBit : Obligations.ResAndSetChangeOneBit := by
  intro b k s
  refine ⟨encode_ofRes b k, encode_ofSet b k, _, _, ?_, ?_, getLsbD_and_mask (s.get8 k) b,
    getLsbD_or_mask (s.get8 k) b⟩
  · rw [exec_res, bitReset, State.advance_set8]
    rfl
  · rw [exec_set, bitSet, State.advance_set8]
    rfl

end Sys2Proof.Machine
end

section
/-! PROOF. Loads, stores and the stack (43_load_store.md): what is read back after a store, the address and the base
register's change of every addressing mode in the arithmetic of bit vectors, and the next states they give. -/

namespace Sys2Proof.Machine

/-! ### Reading after a store -/

theorem State.read_write_same (s : State) (a : Word) (v : Byte) : (s.write a v).read a = v := by
  rw [State.read_write, if_pos rfl]

theorem State.read_write_of_ne (s : State) {a b : Word} (v : Byte) (h : echoTranslate b ≠ echoTranslate a) :
    (s.write a v).read b = s.read b := by
  rw [State.read_write, if_neg h]

/-! ### The word a push stores (R203) -/

theorem word_sub_two_add_one (w : Word) : w - 2 + 1 = w - 1 := by
  rw [← word_sub_one_one, sub_add_cancel]

theorem read_pushed (s : State) (v : Word) (b : Word) :
    (pushed s v).read b = ((s.write (s.sp - 1) (hiByte v)).write (s.sp - 2) (loByte v)).read b := rfl

theorem read_pushed_low (s : State) (v : Word) : (pushed s v).read (s.sp - 2) = loByte v := by
  rw [read_pushed, State.read_write_same]

theorem read_pushed_high (s : State) (v : Word) : (pushed s v).read (s.sp - 2 + 1) = hiByte v := by
  rw [read_pushed, State.read_write_of_ne _ _ (echoTranslate_succ_ne (s.sp - 2)), word_sub_two_add_one,
    State.read_write_same]

theorem read_pushed_of_ne {s : State} {b : Word} (v : Word) (hhi : echoTranslate b ≠ echoTranslate (s.sp - 1))
    (hlo : echoTranslate b ≠ echoTranslate (s.sp - 2)) : (pushed s v).read b = s.read b := by
  rw [read_pushed, State.read_write_of_ne _ _ hlo, State.read_write_of_ne _ _ hhi]

theorem hiByte_stackTop (s : State) : hiByte (stackTop s) = s.read (s.sp + 1) := hiByte_wordOf ..

theorem loByte_stackTop (s : State) : loByte (stackTop s) = s.read s.sp := loByte_wordOf ..

/-! ### Addressing modes (R208) -/

theorem zeroPageAddr_eq (v : Byte) : zeroPageAddr v = wordOf 0xFF v := by
  have hsum : zeroPageAddr v = 0xFF00 + BitVec.ofNat 16 v.toNat := trunc16_add 0xFF00 v.toNat
  have := v.isLt
  rw [hsum]
  apply BitVec.eq_of_toNat_eq
  rw [wordOf_toNat, BitVec.toNat_add, BitVec.toNat_ofNat]
  simp only [BitVec.reduceToNat]
  omega

theorem State.postModify_hlInc (s : State) : s.postModify .hlInc = s.setHl (s.hl + 1) :=
  congrArg s.setHl (trunc16_add s.hl 1)

theorem State.postModify_hlDec (s : State) : s.postModify .hlDec = s.setHl (s.hl - 1) :=
  congrArg s.setHl (trunc16_sub_one s.hl)

/-! ### The next states -/

/-- `advance` (R25) with its sum modulo 65536. -/
theorem State.advance_eq (s : State) (n : Nat) : s.advance n = { s with pc := s.pc + BitVec.ofNat 16 n } := by
  rw [State.advance, State.nextPc_eq]

theorem exec_ofLdReg (r : Reg8) (src : Src8) (s : State) :
    exec (.ofLdReg r src) s =
      .next { s.setReg r (s.getSrc src) with pc := s.pc + BitVec.ofNat 16 (srcWidth src) } := by
  rw [exec_ldReg, ldReg, State.advance_eq, State.pc_setReg]

theorem ldIndHl_eq (src : Src8) (s : State) :
    ldIndHl src s =
      { s.write s.hl (s.getSrc src) with pc := s.pc + BitVec.ofNat 16 (srcWidth src) } := by
  rw [ldIndHl, State.advance_eq, State.pc_write]

theorem exec_ofLdPair (p : Pair) (nn : Word) (s : State) :
    exec (.ofLdPair p nn) s = .next { s.setPair p nn with pc := s.pc + 3 } := by
  rw [exec_ldPair, ldPair, State.advance_eq, State.pc_setPair]
  rfl

theorem storeSp_eq (nn : Word) (s : State) :
    storeSp nn s = { (s.write nn (loByte s.sp)).write (nn + 1) (hiByte s.sp) with pc := s.pc + 3 } := by
  have hnext : trunc16 (nn.toNat + 1) = nn + 1 := trunc16_add nn 1
  rw [storeSp, hnext, State.advance_eq]
  rfl

theorem read_storeSp (nn : Word) (s : State) (b : Word) :
    (storeSp nn s).read b = ((s.write nn (loByte s.sp)).write (nn + 1) (hiByte s.sp)).read b := by
  rw [storeSp_eq]
  rfl

/-- A load of A, from its mode's address `addr` and the state `moved` in which the base register has its change. -/
theorem exec_ofLoadA {m : AddrMode} {s moved : State} {addr : Word} (haddr : s.effAddr m = addr)
    (hmoved : s.postModify m = moved) :
    exec (.ofLoadA m) s =
      .next { moved with a := s.read addr, pc := s.pc + BitVec.ofNat 16 (modeWidth m) } := by
  rw [exec_loadA, loadA_eq, haddr, hmoved, State.nextPc_eq]

/-- A store of A, from its mode's address `addr` and the state `moved` in which the base register has its change. -/
theorem exec_ofStoreA {m : AddrMode} {s moved : State} {addr : Word} (haddr : s.effAddr m = addr)
    (hmoved : s.postModify m = moved) :
    exec (.ofStoreA m) s =
      .next { s.write addr s.a with h := moved.h, l := moved.l, pc := s.pc + BitVec.ofNat 16 (modeWidth m) } := by
  rw [exec_storeA, storeA_eq, haddr, hmoved, State.nextPc_eq]

theorem exec_ofPush (p : StackPair) (s : State) :
    exec (.ofPush p) s = .next { pushed s (s.getStackPair p) with pc := s.pc + 1 } := by
  rw [exec_push, push_eq, State.nextPc_eq]
  rfl

theorem exec_ofPop (p : StackPair) (s : State) :
    exec (.ofPop p) s =
      .next { ({ s with sp := s.sp + 2 } : State).setStackPair p (stackTop s) with pc := s.pc + 1 } := by
  rw [exec_pop, pop_eq, State.nextPc_eq]
  rfl

/-! ### The statements -/

/-- Settles O20: the two addresses are neighbours, so they reach different cells and the second write leaves the
first byte. -/
theorem storeSpLittleEndian : Obligations.StoreSpLittleEndian := by
  intro nn s
  refine ⟨rfl, _, exec_ldIndA16Sp s nn, storeSp_eq nn s, ?_, ?_, fun b hlo hhi => ?_⟩
  · rw [read_storeSp, State.read_write_of_ne _ _ (echoTranslate_succ_ne nn).symm, State.read_write_same]
  · rw [read_storeSp, State.read_write_same]
  · rw [read_storeSp, State.read_write_of_ne _ _ hhi, State.read_write_of_ne _ _ hlo]

/-- Settles O21: the next state is `pushed`'s, whose reads are `read_pushed_low`, `read_pushed_high` and
`read_pushed_of_ne`. -/
theorem pushStoresPairBelowSp : Obligations.PushStoresPairBelowSp := by
  intro p s v
  refine ⟨by cases p <;> rfl, _, exec_ofPush p s, rfl, ?_⟩
  exact ⟨read_pushed_low s v, read_pushed_high s v, fun b => read_pushed_of_ne v⟩

/-- Settles O15: one register is written, from the source as it stood before. -/
theorem loadRegisterFromEverySource : Obligations.LoadRegisterFromEverySource := by
  intro r s
  refine ⟨fun q => ⟨?_, exec_ofLdReg r (.reg q) s⟩, ?_, exec_ofLdReg r .indHl s,
    fun n => ⟨?_, exec_ofLdReg r (.imm n) s⟩⟩
  · cases r <;> cases q <;> rfl
  · cases r <;> rfl
  · cases r <;> rfl

/-- Settles O16: both forms are `ldIndHl`. -/
theorem storeAtHl : Obligations.StoreAtHl := by
  refine ⟨fun r s => ⟨by cases r <;> rfl, ?_⟩, fun n s => ⟨rfl, ?_⟩⟩
  · rw [exec_ldIndHl, ldIndHl_eq]
    rfl
  · rw [exec_ldIndHlD8, ldIndHl_eq]
    rfl

/-- Settles O17: the word goes to the pair or SP, and pc moves by the width. -/
theorem loadPairAndSp : Obligations.LoadPairAndSp := by
  refine ⟨fun p nn s => ⟨by cases p <;> rfl, exec_ofLdPair p nn s⟩, fun s => ⟨rfl, ?_⟩⟩
  rw [exec_ldSpHl, ldSpFromHl, State.advance_eq]
  rfl

/-- Settles O18: the seven are `exec_ofLoadA` at their addressing modes. -/
theorem loadAccumulatorEveryMode : Obligations.LoadAccumulatorEveryMode := by
  intro s n nn
  exact ⟨⟨rfl, rfl, rfl, rfl, rfl, rfl, rfl⟩,
    exec_ofLoadA (m := .indBc) rfl rfl,
    exec_ofLoadA (m := .indDe) rfl rfl,
    exec_ofLoadA (m := .hlInc) rfl s.postModify_hlInc,
    exec_ofLoadA (m := .hlDec) rfl s.postModify_hlDec,
    exec_ofLoadA (m := .zeroPage n) (zeroPageAddr_eq n) rfl,
    exec_ofLoadA (m := .zeroPageC) (zeroPageAddr_eq s.c) rfl,
    exec_ofLoadA (m := .abs nn) rfl rfl⟩

/-- Settles O19: the seven are `exec_ofStoreA` at their addressing modes. -/
theorem storeAccumulatorEveryMode : Obligations.StoreAccumulatorEveryMode := by
  intro s n nn
  exact ⟨⟨rfl, rfl, rfl, rfl, rfl, rfl, rfl⟩,
    exec_ofStoreA (m := .indBc) (moved := s) rfl rfl,
    exec_ofStoreA (m := .indDe) (moved := s) rfl rfl,
    exec_ofStoreA (m := .hlInc) rfl s.postModify_hlInc,
    exec_ofStoreA (m := .hlDec) rfl s.postModify_hlDec,
    exec_ofStoreA (m := .zeroPage n) (moved := s) (zeroPageAddr_eq n) rfl,
    exec_ofStoreA (m := .zeroPageC) (moved := s) (zeroPageAddr_eq s.c) rfl,
    exec_ofStoreA (m := .abs nn) (moved := s) rfl rfl⟩

/-- Settles O22: the bytes of the popped word are the two on top of the stack, and the write of F masks. -/
theorem popLoadsPairAndMasksF : Obligations.PopLoadsPairAndMasksF := by
  intro s lo hi
  have hlo : loByte (stackTop s) = lo := loByte_stackTop s
  have hhi : hiByte (stackTop s) = hi := hiByte_stackTop s
  rw [← hlo, ← hhi]
  exact ⟨fun p => by cases p <;> rfl, exec_ofPop .bc s, exec_ofPop .de s, exec_ofPop .hl s, exec_ofPop .af s⟩

end Sys2Proof.Machine
end

section
/-! PROOF. Control flow (44_control_flow.md): the target of JR in the arithmetic of bit vectors, what a condition reads,
and the next state of every jump, call, return and restart. -/

namespace Sys2Proof.Machine

/-! ### Targets and conditions -/

/-- `trunc16` splits over the sum, and the truncated signed number is the sign extension (R223). -/
theorem jrTarget_eq (e : Byte) (s : State) : jrTarget e s = s.pc + 2 + e.signExtend 16 := by
  have hnext : BitVec.ofInt 16 (s.pc.toNat + 2) = s.pc + 2 := trunc16_add s.pc 2
  rw [jrTarget, trunc16, BitVec.ofInt_add, hnext, sext_eq_toInt, BitVec.signExtend]

/-- A conditional jump writes pc once, on either path (R231). -/
theorem jump_or_advance_eq (s : State) (taken : Bool) (target : Word) (n : Nat) :
    (if taken then s.jump target else s.advance n) =
      { s with pc := if taken then target else s.pc + BitVec.ofNat 16 n } := by
  rw [State.advance_eq]
  exact (apply_ite s.jump ..).symm

/-! ### The next states -/

theorem exec_ofJpCond (cc : Cond) (nn : Word) (s : State) :
    exec (.ofJpCond cc nn) s = .next { s with pc := if s.holds cc then nn else s.pc + 3 } := by
  rw [exec_jpCond, jpCond, jump_or_advance_eq]
  rfl

theorem exec_jrE8_eq (e : Byte) (s : State) :
    exec (.jrE8 e) s = .next { s with pc := s.pc + 2 + e.signExtend 16 } := by
  rw [exec_jrE8, jrTarget_eq, State.jump]

theorem exec_ofJrCond (cc : Cond) (e : Byte) (s : State) :
    exec (.ofJrCond cc e) s =
      .next { s with pc := if s.holds cc then s.pc + 2 + e.signExtend 16 else s.pc + 2 } := by
  rw [exec_jrCond, jrCond, jump_or_advance_eq, jrTarget_eq]
  rfl

theorem exec_callA16_eq (nn : Word) (s : State) :
    exec (.callA16 nn) s = .next { pushed s (s.pc + 3) with pc := nn } := by
  rw [exec_callA16, call_eq, State.nextPc_eq]
  rfl

theorem exec_ofCallCond (cc : Cond) (nn : Word) (s : State) :
    exec (.ofCallCond cc nn) s =
      .next (if s.holds cc then { pushed s (s.pc + 3) with pc := nn } else { s with pc := s.pc + 3 }) := by
  rw [exec_callCond, callCond, call_eq, State.nextPc_eq, State.advance_eq]
  rfl

theorem exec_ret_eq (s : State) : exec .ret s = .next { s with sp := s.sp + 2, pc := stackTop s } := by
  rw [exec_ret, popPc_eq]

theorem exec_reti_eq (s : State) :
    exec .reti s = .next { s with sp := s.sp + 2, pc := stackTop s, ime := true } := by
  rw [exec_reti, popPc_eq]

theorem exec_ofRetCond (cc : Cond) (s : State) :
    exec (.ofRetCond cc) s =
      .next (if s.holds cc then { s with sp := s.sp + 2, pc := stackTop s } else { s with pc := s.pc + 1 }) := by
  rw [exec_retCond, retCond, popPc_eq, State.advance_eq]
  rfl

theorem exec_ofRst (y : Fin 8) (s : State) :
    exec (.ofRst y) s = .next { pushed s (s.pc + 1) with pc := BitVec.ofNat 16 (8 * y.val) } := by
  rw [exec_rst, rst_eq, State.nextPc_eq]
  rfl

/-! ### The statements -/

/-- Settles O25: the target is `jrTarget_eq`'s, and pc is written once whether the condition holds or not. -/
theorem relativeJumps : Obligations.RelativeJumps := by
  intro cc e s
  exact ⟨rfl, by cases cc <;> rfl, exec_jrE8_eq e s, exec_ofJrCond cc e s⟩

/-- Settles O24: NZ and Z read bit 7 of F, NC and C bit 4, and pc is all that a jump writes. -/
theorem absoluteJumps : Obligations.AbsoluteJumps := by
  intro cc nn s
  have hencode : encode (.ofJpCond cc nn) = [BitVec.ofNat 8 (0xC2 + 8 * cc.code), loByte nn, hiByte nn] := by
    cases cc <;> rfl
  exact ⟨rfl, rfl, rfl, rfl, rfl, rfl, hencode, exec_jpA16 s nn, exec_jpHl s, exec_ofJpCond cc nn s⟩

/-- Settles O26: a call that is taken is a push of `pc + 3` and a jump. -/
theorem callsPushReturnAddress : Obligations.CallsPushReturnAddress := by
  intro cc nn s
  exact ⟨rfl, by cases cc <;> rfl, exec_callA16_eq nn s, exec_ofCallCond cc nn s⟩

/-- Settles O27: a return that is taken is `popPc`, and RETI sets IME after it. -/
theorem returnsPopPc : Obligations.ReturnsPopPc := by
  intro cc s
  exact ⟨rfl, rfl, by cases cc <;> rfl, exec_ret_eq s, exec_reti_eq s, exec_ofRetCond cc s⟩

/-- Settles O28: the eight bytes are one row each, and the next state is a push and a jump for every `y`. -/
theorem restartsCallFixedAddress : Obligations.RestartsCallFixedAddress := by
  intro y s
  exact ⟨by fin_cases y <;> rfl, exec_ofRst y s⟩

end Sys2Proof.Machine
end

section
/-! PROOF. Flags and the rest (45_flag_misc.md): decimal adjust as one correction added to A or subtracted from it, and
the next states of the instructions that change only a flag, IME or pc. -/

namespace Sys2Proof.Machine

/-! ### Decimal adjust (R255) -/

theorem trunc8_toNat_add (v : Byte) (k : Int) : trunc8 (v.toNat + k) = v + BitVec.ofInt 8 k := by
  rw [trunc8, BitVec.ofInt_add, BitVec.ofInt_natCast, BitVec.ofNat_toNat, BitVec.setWidth_eq]

theorem trunc8_toNat_sub (v : Byte) (k : Int) : trunc8 (v.toNat - k) = v - BitVec.ofInt 8 k := by
  rw [Int.sub_eq_add_neg, trunc8_toNat_add, BitVec.ofInt_neg, BitVec.sub_eq_add_neg]

/-- A correction that is made only when it is due adds a byte that is zero when it is not. -/
theorem ite_trunc8_add (due : Bool) (v : Byte) (k : Int) :
    (if due then trunc8 (v.toNat + k) else v) = v + (if due then BitVec.ofInt 8 k else 0) := by
  cases due
  · exact (add_zero v).symm
  · exact trunc8_toNat_add v k

theorem ite_trunc8_sub (due : Bool) (v : Byte) (k : Int) :
    (if due then trunc8 (v.toNat - k) else v) = v - (if due then BitVec.ofInt 8 k else 0) := by
  cases due
  · exact (sub_zero v).symm
  · exact trunc8_toNat_sub v k

/-- The byte that the two corrections of R255 add up to. -/
def decimalFix (high low : Bool) : Byte := (if high then 0x60 else 0) + (if low then 0x06 else 0)

/-- The 0x60 correction does not change the low nibble (R255, corner cases). -/
theorem lowNibble_add_highFix (v : Byte) (high : Bool) :
    lowNibble (v + (if high then BitVec.ofInt 8 0x60 else 0)) = lowNibble v := by
  cases high
  · exact congrArg lowNibble (add_zero v)
  · have hsum : (v + BitVec.ofInt 8 0x60).toNat = (v.toNat + 0x60) % 256 := BitVec.toNat_add ..
    simp only [if_true, lowNibble, hsum]
    omega

theorem daaFn_after_addition (v : Byte) (h c : Bool) :
    daaFn v false h c =
      let high := c || decide (v.toNat > 0x99)
      (v + decimalFix high (h || decide (lowNibble v > 9)), high) := by
  simp only [daaFn, Bool.false_eq_true, if_false, ite_trunc8_add, lowNibble_add_highFix, add_assoc]
  rfl

theorem daaFn_after_subtraction (v : Byte) (h c : Bool) : daaFn v true h c = (v - decimalFix c h, c) := by
  simp only [daaFn, if_true, ite_trunc8_sub, sub_sub]
  rfl

/-- Both directions at once: A alone calls for a correction only after an addition. -/
theorem daaFn_eq (v : Byte) (n h c : Bool) :
    daaFn v n h c =
      let high := c || (!n && decide (v.toNat > 0x99))
      let low := h || (!n && decide (lowNibble v > 9))
      (if n then v - decimalFix high low else v + decimalFix high low, high) := by
  cases n with
  | false => exact daaFn_after_addition v h c
  | true =>
    simp only [daaFn_after_subtraction, Bool.not_true, Bool.false_and, Bool.or_false, if_true]

/-! ### The next states -/

theorem advance_setNhc_eq (n h c : Bool) (s : State) :
    (s.setNhc n h c).advance 1 = { s with f := flagByte (s.flag .z) n h c, pc := s.pc + 1 } := by
  rw [State.advance_eq]
  apply State.ext <;> simp

/-! ### The statements -/

/-- Settles O32: the result and the carry are `daaFn_eq`'s, and pc moves by the width. -/
theorem daaCorrection : Obligations.DaaCorrection := by
  intro s n high low fix res
  refine ⟨rfl, ?_⟩
  rw [exec_daa, daa_eq, daaFn_eq, State.nextPc_eq]
  rfl

/-- Settles O30: each is an `advance`, STOP's by the bytes that STOP_LENGTH says. -/
theorem nopHaltStopOnlyAdvance : Obligations.NopHaltStopOnlyAdvance := by
  intro n s
  refine ⟨rfl, rfl, rfl, ?_, ?_, fun hlen => ?_, fun hlen => ?_⟩
  · rw [exec_nop, State.advance_eq]
    rfl
  · rw [exec_halt, State.advance_eq]
    rfl
  · rw [exec_stop, hlen, State.advance_eq]
    rfl
  · rw [exec_stop, hlen, State.advance_eq]
    rfl

/-- Settles O31: IME is written before pc moves, and nothing else is. -/
theorem diAndEiWriteIme : Obligations.DiAndEiWriteIme := by
  intro s
  refine ⟨rfl, rfl, ?_, ?_⟩
  · rw [exec_di, State.advance_eq]
    rfl
  · rw [exec_ei, State.advance_eq]
    rfl

/-- Settles O34: CPL is `cpl_eq`'s state, SCF and CCF are one write of N, H and C. -/
theorem cplScfCcf : Obligations.CplScfCcf := by
  intro s
  refine ⟨rfl, rfl, rfl, ?_, ?_, ?_⟩
  · rw [exec_cpl, cpl_eq, State.nextPc_eq]
    rfl
  · rw [exec_scf, advance_setNhc_eq]
  · rw [exec_ccf, advance_setNhc_eq]

end Sys2Proof.Machine
end

section
/-! PROOF. The launch (70_reset_and_hazards.md): which cartridges it takes, what the bank copy and the boot
collaborator leave in every cell of storage, the registers at the first step, and that an ended run stays as it is. -/

namespace Sys2Proof.Machine

/-! ### Which cartridges are taken (R302, R309) -/

theorem cartAccepted_iff (image : List Byte) :
    cartAccepted image = true ↔ 0x8000 ≤ image.length ∧ image[0x0147]? = some 0x00 := by
  rw [cartAccepted, Bool.and_eq_true, decide_eq_true_iff, beq_iff_eq, List.getD_eq_getElem?_getD]
  cases image[0x0147]? <;> simp

/-- The storage after stages 1 to 3 of the launch (R300): a missing cartridge leaves it empty. -/
def cartStorage : Option (List Byte) → Memory
  | none => []
  | some image => copyBanks image 0x8000 []

/-- The launch in one line: no cartridge or one that is accepted goes on to stages 4 and 5, any other is refused. -/
theorem launch_eq (cart : Option (List Byte)) (vram : BootVram) (regs : ResetRegs) (sp : Word) (cfg : Config) :
    launch cart vram regs sp cfg =
      if cart.all cartAccepted then .next (launchState (cartStorage cart) vram regs sp cfg)
      else .refused .cartridgeRefused := by
  cases cart <;> rfl

theorem launch_next {cart : Option (List Byte)} {vram : BootVram} {regs : ResetRegs} {sp : Word} {cfg : Config}
    {t : State} (h : launch cart vram regs sp cfg = .next t) :
    t = launchState (cartStorage cart) vram regs sp cfg := by
  rw [launch_eq] at h
  split at h <;> cases h
  rfl

/-! ### Storage (R301, R303, R304) -/

theorem cell_copyBanks (image : List Byte) (n : Nat) (m : Memory) (k : Nat) :
    (copyBanks image n m).cell k = if k < n then image.getD k 0 else m.cell k := by
  induction n generalizing m with
  | zero => rfl
  | succ n ih =>
    rw [copyBanks, ih, Memory.cell_setCell]
    by_cases hk : k = n
    · subst hk; simp
    · simp only [hk, if_false, Nat.lt_succ_iff_lt_or_eq, or_false]

theorem cell_cartStorage (cart : Option (List Byte)) (k : Nat) :
    (cartStorage cart).cell k = if k < 0x8000 then (cart.getD []).getD k 0 else 0 := by
  cases cart with
  | none => exact (ite_self 0).symm
  | some image => exact cell_copyBanks image 0x8000 [] k

theorem State.cell_write_below_echo (s : State) {a : Word} (ha : a.toNat < 0xE000) (v : Byte) (k : Nat) :
    (s.write a v).mem.cell k = if k = a.toNat then v else s.mem.cell k := by
  have hcell : (echoTranslate a).toNat = a.toNat := by rw [echoTranslate_toNat, if_neg (by omega)]
  rw [State.write, Memory.cell_setCell, hcell]

/-- A block that ends below the echo range lands in the cells of its own addresses and leaves the others. -/
theorem State.cell_writeBlock (s : State) (a : Word) (vs : List Byte) (hend : a.toNat + vs.length ≤ 0xE000) (k : Nat) :
    (s.writeBlock a vs).mem.cell k =
      if a.toNat ≤ k ∧ k < a.toNat + vs.length then vs.getD (k - a.toNat) 0 else s.mem.cell k := by
  induction vs generalizing a with
  | nil => rw [if_neg (by simp)]; rfl
  | cons v vs ih =>
    rw [List.length_cons] at hend ⊢
    have hsucc : (a + 1).toNat = a.toNat + 1 := by
      rw [BitVec.toNat_add]
      exact Nat.mod_eq_of_lt (by simp only [BitVec.reduceToNat]; omega)
    rw [State.writeBlock, State.cell_write_below_echo _ (by omega), ih (a + 1) (by omega), hsucc]
    by_cases hk : k = a.toNat
    · rw [if_pos hk, if_pos (by omega), hk, Nat.sub_self, List.getD_cons_zero]
    · rw [if_neg hk]
      by_cases hin : a.toNat + 1 ≤ k ∧ k < a.toNat + 1 + vs.length
      · rw [if_pos hin, if_pos (by omega), show k - a.toNat = (k - (a.toNat + 1)) + 1 by omega, List.getD_cons_succ]
      · rw [if_neg hin, if_neg (by omega)]

theorem BootVram.wf_iff (vram : BootVram) :
    vram.wf = true ↔ vram.tiles.length = 0x1800 ∧ vram.upperRow.length = 12 ∧ vram.lowerRow.length = 12 := by
  simp only [BootVram.wf, Bool.and_eq_true, beq_iff_eq, and_assoc]

/-- Every cell after the boot collaborator's writes: its three regions, and what was there before elsewhere. -/
theorem cell_launchState (m : Memory) {vram : BootVram} (hwf : vram.wf = true) (regs : ResetRegs) (sp : Word)
    (cfg : Config) (k : Nat) :
    (launchState m vram regs sp cfg).mem.cell k =
      if 0x9924 ≤ k ∧ k < 0x9924 + 12 then vram.lowerRow.getD (k - 0x9924) 0
      else if 0x9904 ≤ k ∧ k < 0x9904 + 12 then vram.upperRow.getD (k - 0x9904) 0
      else if 0x8000 ≤ k ∧ k < 0x8000 + 0x1800 then vram.tiles.getD (k - 0x8000) 0
      else m.cell k := by
  obtain ⟨htiles, hupper, hlower⟩ := vram.wf_iff.1 hwf
  rw [launchState, State.cell_writeBlock _ _ _ (by rw [hlower]; decide),
    State.cell_writeBlock _ _ _ (by rw [hupper]; decide), State.cell_writeBlock _ _ _ (by rw [htiles]; decide),
    htiles, hupper, hlower]
  rfl

/-! ### Registers (R305 to R308) -/

theorem State.writeBlock_eq (s : State) (a : Word) (vs : List Byte) :
    s.writeBlock a vs = { s with mem := (s.writeBlock a vs).mem } := by
  induction vs generalizing a with
  | nil => rfl
  | cons v vs ih => rw [State.writeBlock, ih]; rfl

/-- The boot collaborator writes no register. -/
theorem launchState_eq (m : Memory) (vram : BootVram) (regs : ResetRegs) (sp : Word) (cfg : Config) :
    launchState m vram regs sp cfg =
      { a := regs.a, f := regs.f &&& 0xF0, b := regs.b, c := regs.c, d := regs.d, e := regs.e, h := regs.h,
        l := regs.l, sp := sp, pc := 0x0100, ime := false, mem := (launchState m vram regs sp cfg).mem,
        cfg := cfg } := by
  rw [launchState, State.writeBlock_eq, State.writeBlock_eq, State.writeBlock_eq]
  rfl

theorem maskF_of_low_zero {v : Byte} (h : v &&& 0x0F = 0) : v &&& 0xF0 = v :=
  calc v &&& 0xF0 = (v &&& 0x0F) ||| (v &&& 0xF0) := by rw [h]; exact BitVec.zero_or.symm
    _ = v &&& (0x0F ||| 0xF0) := BitVec.and_or_distrib_left.symm
    _ = v := BitVec.and_allOnes

/-! ### Ended runs (R284) -/

theorem Run.event_of_ended {r : Run} (hended : r.status ≠ .running) (ev : HostEvent) : r.event ev = r := by
  rw [Run.event]
  split
  · next hrun _ => exact absurd hrun hended
  · rfl

theorem Run.events_of_ended {r : Run} (hended : r.status ≠ .running) (later : List HostEvent) :
    r.events later = r := by
  induction later with
  | nil => rfl
  | cons ev evs ih => rw [Run.events, Run.event_of_ended hended, ih]

/-! ### The statements -/

/-- Settles O56: `launchState_eq` gives every register, and the mask leaves an F whose low bits are zero. -/
theorem launchSetsRegisters : Obligations.LaunchSetsRegisters := by
  refine ⟨rfl, fun cart vram regs sp cfg t hwf hlaunch => ?_⟩
  have hf : regs.f &&& 0xF0 = regs.f := maskF_of_low_zero (beq_iff_eq.1 hwf)
  rw [launch_next hlaunch, launchState_eq, hf]
  exact ⟨rfl, rfl, rfl, rfl, rfl, rfl, rfl, rfl, rfl, rfl, rfl, rfl⟩

/-- Settles O57: by the regions of `cell_launchState` over the bank copy of `cell_cartStorage`. -/
theorem launchFillsMemory : Obligations.LaunchFillsMemory := by
  intro cart vram regs sp cfg t hwf hlaunch
  have hcell := cell_launchState (cartStorage cart) hwf regs sp cfg
  simp only [← launch_next hlaunch, cell_cartStorage] at hcell
  refine ⟨fun k hk => ?_, fun k hk => ?_, fun k hk => ?_, fun k hk => ?_, fun a hrest hupper hlower => ?_⟩ <;>
    rw [hcell]
  · rw [if_neg (by omega), if_neg (by omega), if_neg (by omega), if_pos hk]
  · rw [if_neg (by omega), if_neg (by omega), if_pos (by omega), Nat.add_sub_cancel_left]
  · rw [if_neg (by omega), if_pos (by omega), Nat.add_sub_cancel_left]
  · rw [if_pos (by omega), Nat.add_sub_cancel_left]
  · rw [if_neg (by omega), if_neg (by omega), if_neg (by omega), if_neg (by omega)]

/-- Settles O55: `launch_eq` and `cartAccepted_iff` decide the launch, and a refused run has ended. -/
theorem launchRefusesUnsupportedCartridge : Obligations.LaunchRefusesUnsupportedCartridge := by
  refine ⟨rfl, Run.events_of_ended (by simp [Run.ofLaunch]), fun vram regs sp cfg =>
    ⟨⟨_, rfl⟩, fun image => ⟨fun hbad => ?_, fun hlen htype => ?_⟩⟩⟩
  · have hrefused : ¬ cartAccepted image = true := by
      rw [cartAccepted_iff]
      rintro ⟨hlen, htype⟩
      exact hbad.elim (Nat.not_lt.2 hlen) (absurd htype)
    rw [launch_eq]
    exact if_neg hrefused
  · rw [launch_eq]
    exact ⟨_, if_pos ((cartAccepted_iff image).2 ⟨hlen, htype⟩)⟩

end Sys2Proof.Machine
end

section
/-! PROOF. The encoding (30_encoding.md): an opcode byte by its fields, the bytes of a row, the two round trips between
instructions and bytes, the lengths, and what a step fetches. -/

namespace Sys2Proof.Machine

/-! ### Opcode bytes by their fields (R81) -/

/-- The byte with the fields x, y and z. -/
def opcode (x : Fin 4) (y z : Fin 8) : Byte := BitVec.ofNat 8 (64 * x.val + 8 * y.val + z.val)

theorem opcode_fields (o : Byte) : opcode (fieldX o) (fieldY o) (fieldZ o) = o := by
  revert o; decide

theorem fieldX_opcode (x : Fin 4) (y z : Fin 8) : fieldX (opcode x y z) = x := by
  revert x y z; decide

theorem fieldY_opcode (x : Fin 4) (y z : Fin 8) : fieldY (opcode x y z) = y := by
  revert x y z; decide

theorem fieldZ_opcode (x : Fin 4) (y z : Fin 8) : fieldZ (opcode x y z) = z := by
  revert x y z; decide

/-- The operand's code as a field. -/
def operandField (k : Operand8) : Fin 8 :=
  ⟨k.code, by cases k with
    | reg r => cases r <;> decide
    | indHl => decide⟩

/-- The shift's code as a field. -/
def shiftField (op : ShiftOp) : Fin 8 := ⟨op.code, by cases op <;> decide⟩

theorem operandOf_operandField (k : Operand8) : operandOf (operandField k) = k := by
  cases k with
  | reg r => cases r <;> rfl
  | indHl => rfl

theorem shiftOpOf_shiftField (op : ShiftOp) : shiftOpOf (shiftField op) = op := by cases op <;> rfl

theorem tableLength_bounds (o : Byte) : 1 ≤ tableLength o ∧ tableLength o ≤ 3 := by
  revert o; decide

/-! ### The secondary map (R85) -/

theorem decodeSecondary_wf (cbop : Byte) : (decodeSecondary cbop).wf = true := by
  revert cbop; decide

theorem encode_decodeSecondary (cbop : Byte) : encode (decodeSecondary cbop) = [0xCB, cbop] := by
  revert cbop; decide

/-! ### Decoding, then encoding -/

/-- The bytes of the row of `o` (R80): its operand is the byte `b1`, or the word `w` with its low byte first. -/
def rowBytes (o b1 : Byte) (w : Word) : List Byte :=
  if tableLength o = 3 then [o, loByte w, hiByte w] else [o, b1].take (tableLength o)

theorem rowBytes_wordOf (o b1 b2 : Byte) : rowBytes o b1 (wordOf b2 b1) = [o, b1, b2].take (tableLength o) := by
  obtain ⟨-, hle⟩ := tableLength_bounds o
  rw [rowBytes, loByte_wordOf, hiByte_wordOf]
  split
  · next h => rw [h]; rfl
  · next h => exact (List.take_append_of_le_length (l₁ := [o, b1]) (l₂ := [b2]) (by simp; omega)).symm

/-- The instruction that the decoder gives for `o` and its operand bytes is well formed and has the bytes of the row. -/
structure IsRow (o b1 b2 : Byte) : Prop where
  wf : (decodeBytes o b1 b2).wf = true
  bytes : encode (decodeBytes o b1 b2) = rowBytes o b1 (wordOf b2 b1)

/-! The 256 rows, by the fields of the opcode byte: a row is decoded and encoded by evaluation, whatever its operand. -/

theorem isRow_x0 (y z : Fin 8) (b1 b2 : Byte) : IsRow (opcode 0 y z) b1 b2 := by
  fin_cases z <;> fin_cases y <;> exact ⟨rfl, rfl⟩

theorem isRow_x1 (y z : Fin 8) (b1 b2 : Byte) : IsRow (opcode 1 y z) b1 b2 := by
  fin_cases z <;> fin_cases y <;> exact ⟨rfl, rfl⟩

theorem isRow_x2 (y z : Fin 8) (b1 b2 : Byte) : IsRow (opcode 2 y z) b1 b2 := by
  fin_cases z <;> fin_cases y <;> exact ⟨rfl, rfl⟩

theorem isRow_prefix (b1 b2 : Byte) : IsRow 0xCB b1 b2 := ⟨decodeSecondary_wf b1, encode_decodeSecondary b1⟩

theorem isRow_x3 (y z : Fin 8) (b1 b2 : Byte) : IsRow (opcode 3 y z) b1 b2 := by
  match z, y with
  | 3, 1 => exact isRow_prefix b1 b2
  | 3, 0 | 3, 2 | 3, 3 | 3, 4 | 3, 5 | 3, 6 | 3, 7 => exact ⟨rfl, rfl⟩
  | 0, y | 1, y | 2, y | 4, y | 5, y | 6, y | 7, y => fin_cases y <;> exact ⟨rfl, rfl⟩

theorem isRow (o b1 b2 : Byte) : IsRow o b1 b2 := by
  rw [← opcode_fields o]
  match fieldX o with
  | 0 => exact isRow_x0 ..
  | 1 => exact isRow_x1 ..
  | 2 => exact isRow_x2 ..
  | 3 => exact isRow_x3 ..

theorem encode_decodeBytes (o b1 b2 : Byte) : encode (decodeBytes o b1 b2) = [o, b1, b2].take (tableLength o) :=
  (isRow o b1 b2).bytes.trans (rowBytes_wordOf o b1 b2)

theorem length_encode_decodeBytes (o b1 b2 : Byte) : (encode (decodeBytes o b1 b2)).length = tableLength o := by
  rw [encode_decodeBytes, List.length_take]
  exact Nat.min_eq_left (tableLength_bounds o).2

/-! ### Encoding, then decoding -/

/-- Decoding the bytes of `i` gives `i` back, whatever follows them. -/
def DecodesBack (i : Instr) : Prop := ∀ rest : List Byte, decode (encode i ++ rest) = .ok (i, rest)

theorem decode_row (o : Byte) (ops rest : List Byte) (hlen : ops.length + 1 = tableLength o) :
    decode (o :: (ops ++ rest)) = .ok (decodeBytes o ((ops ++ rest).getD 0 0) ((ops ++ rest).getD 1 0), rest) := by
  rw [decode, ← hlen, if_neg (by simp), Nat.add_sub_cancel, List.drop_left]

theorem decodesBack_of_row {i : Instr} {o : Byte} {ops : List Byte} (henc : encode i = o :: ops)
    (hlen : ops.length + 1 = tableLength o)
    (hdec : ∀ rest, decodeBytes o ((ops ++ rest).getD 0 0) ((ops ++ rest).getD 1 0) = i) : DecodesBack i := by
  intro rest
  rw [henc, List.cons_append, decode_row o ops rest hlen, hdec]

/-- A word's two bytes give the word back. -/
theorem decodesBack_of_word {f : Word → Instr} {nn : Word} {o : Byte} (henc : encode (f nn) = [o, loByte nn, hiByte nn])
    (hlen : tableLength o = 3) (hdec : ∀ b1 b2, decodeBytes o b1 b2 = f (wordOf b2 b1)) : DecodesBack (f nn) :=
  decodesBack_of_row henc hlen.symm fun _ => (hdec ..).trans (congrArg f (wordOf_hiByte_loByte nn))

theorem decodesBack_ofAlu (op : AluOp) (src : Src8) : DecodesBack (.ofAlu op src) := by
  cases src with
  | reg r => cases op <;> cases r <;> exact decodesBack_of_row rfl rfl fun _ => rfl
  | indHl => cases op <;> exact decodesBack_of_row rfl rfl fun _ => rfl
  | imm n => cases op <;> exact decodesBack_of_row rfl rfl fun _ => rfl

theorem decodesBack_ofLdReg (r : Reg8) (src : Src8) : DecodesBack (.ofLdReg r src) := by
  cases src with
  | reg q => cases r <;> cases q <;> exact decodesBack_of_row rfl rfl fun _ => rfl
  | indHl => cases r <;> exact decodesBack_of_row rfl rfl fun _ => rfl
  | imm n => cases r <;> exact decodesBack_of_row rfl rfl fun _ => rfl

section
variable (b : Fin 8) (k : Operand8)

theorem decodesBack_ofShift (op : ShiftOp) : DecodesBack (.ofShift op k) := by
  have hdec : decodeSecondary (opcode 0 (shiftField op) (operandField k)) = .ofShift op k := by
    simp only [decodeSecondary, fieldX_opcode, fieldY_opcode, fieldZ_opcode, shiftOpOf_shiftField,
      operandOf_operandField]
  exact decodesBack_of_row (encode_ofShift op k) rfl fun _ => hdec

theorem decodesBack_ofBit : DecodesBack (.ofBit b k) := by
  have hdec : decodeSecondary (opcode 1 b (operandField k)) = .ofBit b k := by
    simp only [decodeSecondary, fieldX_opcode, fieldY_opcode, fieldZ_opcode, operandOf_operandField]
  exact decodesBack_of_row (encode_ofBit b k) rfl fun _ => hdec

theorem decodesBack_ofRes : DecodesBack (.ofRes b k) := by
  have hdec : decodeSecondary (opcode 2 b (operandField k)) = .ofRes b k := by
    simp only [decodeSecondary, fieldX_opcode, fieldY_opcode, fieldZ_opcode, operandOf_operandField]
  exact decodesBack_of_row (encode_ofRes b k) rfl fun _ => hdec

theorem decodesBack_ofSet : DecodesBack (.ofSet b k) := by
  have hdec : decodeSecondary (opcode 3 b (operandField k)) = .ofSet b k := by
    simp only [decodeSecondary, fieldX_opcode, fieldY_opcode, fieldZ_opcode, operandOf_operandField]
  exact decodesBack_of_row (encode_ofSet b k) rfl fun _ => hdec

end

theorem decodesBack_illegal {op : Byte} (h : illegalBytes.contains op = true) : DecodesBack (.illegal op) := by
  have hlen : ∀ o : Byte, illegalBytes.contains o = true → tableLength o = 1 := by decide
  exact decodesBack_of_row (ops := []) rfl (hlen op h).symm fun _ => decodeBytes_of_illegal h ..

theorem decodesBack_of_wf {i : Instr} (hwf : i.wf = true) : DecodesBack i := by
  cases shape i with
  | alu op src => exact decodesBack_ofAlu op src
  | ldReg r src => exact decodesBack_ofLdReg r src
  | shift op k => exact decodesBack_ofShift k op
  | bit b k => exact decodesBack_ofBit b k
  | res b k => exact decodesBack_ofRes b k
  | set b k => exact decodesBack_ofSet b k
  | illegal op => exact decodesBack_illegal hwf
  | prefixCb cbop => cases hwf
  | addHl p | inc16 p | dec16 p => cases p <;> exact decodesBack_of_row rfl rfl fun _ => rfl
  | inc8 k | dec8 k =>
    cases k with
    | reg r => cases r <;> exact decodesBack_of_row rfl rfl fun _ => rfl
    | indHl => exact decodesBack_of_row rfl rfl fun _ => rfl
  | ldIndHl r => cases r <;> exact decodesBack_of_row rfl rfl fun _ => rfl
  | push p | pop p => cases p <;> exact decodesBack_of_row rfl rfl fun _ => rfl
  | retCond cc => cases cc <;> exact decodesBack_of_row rfl rfl fun _ => rfl
  | jrCond cc e => cases cc <;> exact decodesBack_of_row rfl rfl fun _ => rfl
  | rst y => fin_cases y <;> exact decodesBack_of_row rfl rfl fun _ => rfl
  | ldPair p nn => cases p <;> exact decodesBack_of_word rfl rfl fun _ _ => rfl
  | jpCond cc nn | callCond cc nn => cases cc <;> exact decodesBack_of_word rfl rfl fun _ _ => rfl
  | ldIndA16Sp nn | jpA16 nn | callA16 nn => exact decodesBack_of_word rfl rfl fun _ _ => rfl
  | storeA m | loadA m =>
    cases m with
    | abs nn => exact decodesBack_of_word rfl rfl fun _ _ => rfl
    | indBc | indDe | hlInc | hlDec | zeroPage n | zeroPageC => exact decodesBack_of_row rfl rfl fun _ => rfl
  | addSpE8 e | rlca | rrca | rla | rra | ldIndHlD8 n | ldSpHl | ldHlSpE8 e | jpHl | jrE8 e | ret | reti | nop | halt
  | stop n | di | ei | daa | cpl | scf | ccf => exact decodesBack_of_row rfl rfl fun _ => rfl

/-! ### What a step fetches (R89) -/

theorem decode_three_bytes (o b1 b2 : Byte) :
    decode [o, b1, b2] = .ok (decodeBytes o b1 b2, [b1, b2].drop (tableLength o - 1)) := by
  have hle := (tableLength_bounds o).2
  exact if_neg (Nat.not_lt.2 hle)

theorem step_of_decode {s : State} {i : Instr} {rest : List Byte} (h : decode (s.readBlock s.pc 3) = .ok (i, rest)) :
    step s = exec i s := by
  have hread : s.readBlock s.pc 3 = [s.read s.pc, s.read (s.pc + 1), s.read (s.pc + 2)] := by
    simp only [State.readBlock, BitVec.add_assoc]
    rfl
  rw [hread, decode_three_bytes] at h
  cases h
  rfl

theorem placedAt_iff (s : State) (a : Word) (bs : List Byte) :
    placedAt s a bs = true ↔ s.readBlock a bs.length = bs := by
  induction bs generalizing a with
  | nil => simp [placedAt, State.readBlock]
  | cons v vs ih => simp [placedAt, State.readBlock, ih]

theorem State.exists_readBlock_append (s : State) (a : Word) {m n : Nat} (hle : m ≤ n) :
    ∃ rest, s.readBlock a n = s.readBlock a m ++ rest := by
  induction m generalizing a n with
  | zero => exact ⟨_, rfl⟩
  | succ m ih =>
    obtain ⟨n, rfl⟩ : ∃ k, n = k + 1 := ⟨n - 1, by omega⟩
    obtain ⟨rest, hrest⟩ := ih (a + 1) (Nat.le_of_succ_le_succ hle)
    exact ⟨rest, congrArg (s.read a :: ·) hrest⟩

theorem length_encode_le {i : Instr} (hwf : i.wf = true) : (encode i).length ≤ 3 := by
  have hdec := decodesBack_of_wf hwf []
  rw [List.append_nil] at hdec
  cases henc : encode i with
  | nil => exact Nat.zero_le 3
  | cons o ops =>
    rw [henc, decode] at hdec
    split at hdec
    · cases hdec
    · have hdrop : ops.drop (tableLength o - 1) = [] := (Prod.mk.inj (Except.ok.inj hdec)).2
      have hops := List.drop_eq_nil_iff.1 hdrop
      have hle := (tableLength_bounds o).2
      rw [List.length_cons]
      omega

/-! ### The length an opcode byte gives (R83) -/

theorem head_encode_decodeBytes (o b1 b2 : Byte) : (encode (decodeBytes o b1 b2)).head? = some o := by
  have hpos := (tableLength_bounds o).1
  rw [encode_decodeBytes, List.head?_take, if_neg (by omega)]
  rfl

theorem opcode_eq_of_decodeBytes_stop {o b1 b2 n : Byte} (h : decodeBytes o b1 b2 = .stop n) : o = 0x10 := by
  have hhead := head_encode_decodeBytes o b1 b2
  rw [h] at hhead
  exact (Option.some.inj hhead).symm

theorem width_decodeBytes (cfg : Config) (o b1 b2 : Byte) :
    (decodeBytes o b1 b2).width cfg = opcodeLength cfg o := by
  by_cases ho : o = 0x10
  · subst ho
    rfl
  · unfold Instr.width
    rw [opcodeLength, if_neg ho]
    split
    · next h => exact absurd (opcode_eq_of_decodeBytes_stop h) ho
    · exact length_encode_decodeBytes o b1 b2

theorem opcodeLength_bounds (cfg : Config) (o : Byte) : 1 ≤ opcodeLength cfg o ∧ opcodeLength cfg o ≤ 3 := by
  rw [opcodeLength]
  split
  · cases cfg.stopLength <;> decide
  · exact tableLength_bounds o

/-! ### The statements -/

/-- Settles O40: the bytes are the row's, which the decoder took its operands from. -/
theorem encodeOfDecodeIsIdentity : Obligations.EncodeOfDecodeIsIdentity := fun o b1 b2 =>
  ⟨(isRow o b1 b2).wf, encode_decodeBytes o b1 b2⟩

/-- Settles O39: shape by shape, the fields of the opcode byte name the operands that the encoder wrote into it. -/
theorem decodeOfEncodeIsIdentity : Obligations.DecodeOfEncodeIsIdentity := fun _ rest hwf =>
  decodesBack_of_wf hwf rest

/-- Settles O41: the encoder's bytes of the decoded instruction are as many as the row's, and only 0x10 is STOP's. -/
theorem opcodeByteGivesLength : Obligations.OpcodeByteGivesLength := fun cfg o b1 b2 =>
  ⟨width_decodeBytes cfg o b1 b2, opcodeLength_bounds cfg o⟩

/-- Settles O38: the decoder reads the eighteen words. -/
theorem sampleWordsDecode : Obligations.SampleWordsDecode :=
  ⟨rfl, rfl, rfl, rfl, rfl, rfl, rfl, rfl, rfl, rfl, rfl, rfl, rfl, rfl, rfl, rfl, rfl, rfl⟩

/-- Settles O42: the three bytes at pc begin with the encoder's bytes, which decode back whatever follows them. -/
theorem stepRunsInstructionAtPc : Obligations.StepRunsInstructionAtPc := by
  refine ⟨fun s i rest h => step_of_decode h, fun s i hwf hplaced => ?_⟩
  obtain ⟨rest, hrest⟩ := s.exists_readBlock_append s.pc (length_encode_le hwf)
  rw [(placedAt_iff s s.pc (encode i)).1 hplaced] at hrest
  exact step_of_decode (hrest ▸ decodesBack_of_wf hwf rest)

end Sys2Proof.Machine
end

section
/-! PROOF. PREFIX CB (30_encoding.md rules R85 and R89): its instruction is the secondary map's, with two bytes. -/

namespace Sys2Proof.Machine

theorem exec_decodeSecondary (cbop : Byte) (s : State) : exec (decodeSecondary cbop) s = exec (.prefixCb cbop) s := by
  rw [exec_prefixCb, decodeSecondary, execPrefixCb]
  generalize fieldX cbop = x
  match x with
  | 0 => exact exec_shift ..
  | 1 => exact exec_bit ..
  | 2 => exact exec_res ..
  | 3 => exact exec_set ..

theorem exec_prefixCb_next (cbop : Byte) (s : State) : ∃ t, exec (.prefixCb cbop) s = .next t ∧ t.pc = s.pc + 2 := by
  have hpc : s.nextPc 2 = s.pc + 2 := s.nextPc_eq 2
  rw [exec_prefixCb, execPrefixCb, ← hpc]
  generalize fieldX cbop = x
  match x with
  | 0 => exact ⟨_, rfl, by rw [shift_eq]⟩
  | 1 => exact ⟨_, rfl, by rw [bitTest_eq]⟩
  | 2 => exact ⟨_, rfl, by rw [bitReset, State.pc_advance, State.nextPc, State.pc_set8, State.nextPc]⟩
  | 3 => exact ⟨_, rfl, by rw [bitSet, State.pc_advance, State.nextPc, State.pc_set8, State.nextPc]⟩

/-- Settles O35: `execPrefixCb` goes by the same fields as the decoder of the secondary map. -/
theorem prefixRunsSecondaryMap : Obligations.PrefixRunsSecondaryMap := by
  intro cbop s
  obtain ⟨t, ht, hpc⟩ := exec_prefixCb_next cbop s
  exact ⟨decodeSecondary_wf cbop, encode_decodeSecondary cbop, t, ht, (exec_decodeSecondary cbop s).trans ht, hpc⟩

end Sys2Proof.Machine
end

section
/-! PROOF. The stack (43_load_store.md rules R203 and R204): what a push stores is what the next pop loads, so PUSH then
POP and CALL then RET come back. -/

namespace Sys2Proof.Machine

theorem stackTop_pushed (s : State) (v : Word) : stackTop (pushed s v) = v := by
  have hlo : (pushed s v).read (pushed s v).sp = loByte v := read_pushed_low s v
  have hhi : (pushed s v).read ((pushed s v).sp + 1) = hiByte v := read_pushed_high s v
  rw [stackTop, hlo, hhi, wordOf_hiByte_loByte]

theorem stackTop_with_pc (s : State) (target : Word) : stackTop { s with pc := target } = stackTop s := rfl

/-- The state after a push and a write of pc, with SP moved back up: only pc and memory differ from `s`. -/
theorem popped_pushed (s : State) (v target : Word) :
    ({ pushed s v with pc := target, sp := (pushed s v).sp + 2 } : State) =
      { s with mem := (pushed s v).mem, pc := target } :=
  congrArg (fun w => { s with mem := (pushed s v).mem, pc := target, sp := w }) (sub_add_cancel s.sp 2)

/-- A return right behind a push goes to the pushed address. -/
theorem exec_ret_pushed (s : State) (v target : Word) :
    exec .ret { pushed s v with pc := target } = .next { s with mem := (pushed s v).mem, pc := v } := by
  rw [exec_ret_eq, stackTop_with_pc, stackTop_pushed]
  exact congrArg Host.Outcome.next (popped_pushed s v v)

/-- Writing a pair's own word changes nothing; for AF because the mask leaves an F whose low bits are zero. -/
theorem setStackPair_getStackPair (p : StackPair) (s : State) (hf : p = .af → s.f &&& 0x0F = 0) :
    s.setStackPair p (s.getStackPair p) = s := by
  cases p with
  | bc => simp [State.setStackPair, State.setPair, State.getStackPair, State.bc]
  | de => simp [State.setStackPair, State.setPair, State.getStackPair, State.de]
  | hl => simp [State.setStackPair, State.setPair, State.getStackPair, State.hl, State.setHl]
  | af =>
    have hmask : s.f &&& 0xF0#8 = s.f := maskF_of_low_zero (hf rfl)
    simp [State.setStackPair, State.getStackPair, State.af, State.setF, hmask]

/-- A pop of `p` right behind a push of `p`. -/
theorem exec_ofPop_pushed (p : StackPair) (s : State) (target : Word) (hf : p = .af → s.f &&& 0x0F = 0) :
    exec (.ofPop p) { pushed s (s.getStackPair p) with pc := target } =
      .next { s with mem := (pushed s (s.getStackPair p)).mem, pc := target + 1 } := by
  have hset := setStackPair_getStackPair p { s with mem := (pushed s (s.getStackPair p)).mem, pc := target } hf
  have hpair : ({ s with mem := (pushed s (s.getStackPair p)).mem, pc := target } : State).getStackPair p =
      s.getStackPair p := by cases p <;> rfl
  rw [hpair] at hset
  rw [exec_ofPop, stackTop_with_pc, stackTop_pushed, popped_pushed, hset]

/-- Settles O23: the pop reads the pushed word, and a pair's own word leaves the registers. -/
theorem pushThenPopRestores : Obligations.PushThenPopRestores := by
  intro p s hf
  refine ⟨_, _, exec_ofPush p s, exec_ofPop_pushed p s (s.pc + 1) hf, ?_⟩
  rw [BitVec.add_assoc]
  rfl

/-- Settles O29: the return reads the pushed address. -/
theorem callThenReturnComesBack : Obligations.CallThenReturnComesBack := fun nn s =>
  ⟨_, _, exec_callA16_eq nn s, exec_ret_pushed s (s.pc + 3) nn, rfl⟩

end Sys2Proof.Machine
end

section
/-! PROOF. Decimal arithmetic (45_flag_misc.md rule R255): DAA behind an addition or a subtraction of two bytes in
binary-coded decimal gives the decimal result and its carry. -/

namespace Sys2Proof.Machine

theorem bcd_toNat {n : Nat} (hn : n < 100) : (bcd n).toNat = n / 10 * 16 + n % 10 := by
  rw [bcd, BitVec.toNat_ofNat]
  omega

theorem eq_bcd_of_digits {v : Byte} {n : Nat} (tens units : Nat) (hn : n = 10 * tens + units) (htens : tens < 10)
    (hunits : units < 10) (hv : v.toNat = 16 * tens + units) : v = bcd n := by
  apply BitVec.eq_of_toNat_eq
  rw [hv, bcd_toNat (by omega)]
  omega

theorem toNat_carry (cin : Bool) : (if cin then (1 : Byte) else 0).toNat = cin.toNat := by cases cin <;> rfl

theorem decimalFix_toNat (high low : Prop) [Decidable high] [Decidable low] :
    (decimalFix (decide high) (decide low)).toNat = (if high then 0x60 else 0) + (if low then 0x06 else 0) := by
  by_cases hhigh : high <;> by_cases hlow : low <;> simp [decimalFix, hhigh, hlow]

theorem lowNibble_bcd {n : Nat} (hn : n < 100) : lowNibble (bcd n) = n % 10 := by
  rw [lowNibble, bcd_toNat hn]
  omega

section
variable {x y : Nat} (hx : x < 100) (hy : y < 100) (cin : Bool)
include hx hy

/-- The sum of two decimal bytes, with `t` the sum of the tens and `u` that of the units and the carry. -/
theorem add8_bcd : ∃ t u, t ≤ 18 ∧ u ≤ 19 ∧ x + y + cin.toNat = 10 * t + u ∧
    (add8 (bcd x) (bcd y) cin).res.toNat = (16 * t + u) % 256 ∧ (add8 (bcd x) (bcd y) cin).n = false ∧
    (add8 (bcd x) (bcd y) cin).h = decide (15 < u) ∧ (add8 (bcd x) (bcd y) cin).c = decide (255 < 16 * t + u) := by
  have hcin := cin.toNat_le
  refine ⟨x / 10 + y / 10, x % 10 + y % 10 + cin.toNat, by omega, by omega, by omega, ?_⟩
  simp only [add8_eq, BitVec.toNat_add, toNat_carry, bcd_toNat hx, bcd_toNat hy, decide_eq_decide]
  refine ⟨?_, trivial, ?_, ?_⟩ <;> omega

/-- DAA after ADD or ADC: the low correction is due when the units pass 9, the high one when the sum passes 99. -/
theorem daaFn_add8_bcd (cin : Bool) :
    let r := add8 (bcd x) (bcd y) cin
    daaFn r.res r.n r.h r.c = (bcd ((x + y + cin.toNat) % 100), decide (100 ≤ x + y + cin.toNat)) := by
  intro r
  obtain ⟨t, u, ht, hu, hsum, hres, hn, hh, hc⟩ := add8_bcd hx hy cin
  have hhigh : (r.c || decide (r.res.toNat > 0x99)) = decide (100 ≤ 10 * t + u) := by
    rw [hc, hres, ← Bool.decide_or, decide_eq_decide]
    rcases Nat.lt_or_ge (16 * t + u) 256 with hlt | hge
    · rw [Nat.mod_eq_of_lt hlt]
      omega
    · omega
  have hlow : (r.h || decide (lowNibble r.res > 9)) = decide (10 ≤ u) := by
    rw [hh, lowNibble, hres, ← Bool.decide_or, decide_eq_decide]
    omega
  have hfixed : r.res + decimalFix (decide (100 ≤ 10 * t + u)) (decide (10 ≤ u)) = bcd ((10 * t + u) % 100) := by
    have hv := BitVec.toNat_add r.res (decimalFix (decide (100 ≤ 10 * t + u)) (decide (10 ≤ u)))
    rw [hres, decimalFix_toNat] at hv
    split at hv <;> split at hv
    · exact eq_bcd_of_digits (t - 9) (u - 10) (by omega) (by omega) (by omega) (by omega)
    · exact eq_bcd_of_digits (t - 10) u (by omega) (by omega) (by omega) (by omega)
    · exact eq_bcd_of_digits (t + 1) (u - 10) (by omega) (by omega) (by omega) (by omega)
    · exact eq_bcd_of_digits t u (by omega) (by omega) (by omega) (by omega)
  rw [hn, daaFn_after_addition, hsum, ← hfixed]
  simp only [hhigh, hlow]

/-- The difference of two decimal bytes, with `t` the difference of the tens and `u` that of the units and the
borrow. -/
theorem sub8_bcd : ∃ t u : Int, -9 ≤ t ∧ t ≤ 9 ∧ -10 ≤ u ∧ u ≤ 9 ∧ (x : Int) - y - cin.toNat = 10 * t + u ∧
    (sub8 (bcd x) (bcd y) cin).res.toNat = 16 * t + u + (if 16 * t + u < 0 then 256 else 0) ∧
    (sub8 (bcd x) (bcd y) cin).n = true ∧
    (sub8 (bcd x) (bcd y) cin).h = decide (u < 0) ∧ (sub8 (bcd x) (bcd y) cin).c = decide (16 * t + u < 0) := by
  have hcin := cin.toNat_le
  refine ⟨(x / 10 : Nat) - (y / 10 : Nat), (x % 10 : Nat) - (y % 10 : Nat) - cin.toNat, ?_⟩
  simp only [sub8_eq, BitVec.toNat_sub, toNat_carry, bcd_toNat hx, bcd_toNat hy, decide_eq_decide]
  refine ⟨by omega, by omega, by omega, by omega, by omega, ?_, trivial, ?_, ?_⟩
  · split <;> omega
  · omega
  · omega

/-- DAA after SUB or SBC: each borrow took 16 instead of 10 from its digit. -/
theorem daaFn_sub8_bcd (cin : Bool) :
    let r := sub8 (bcd x) (bcd y) cin
    daaFn r.res r.n r.h r.c = (bcd ((x + 100 - y + 100 - cin.toNat) % 100), decide (x < y + cin.toNat)) := by
  intro r
  obtain ⟨t, u, ht, ht', hu, hu', hdiff, hres, hn, hh, hc⟩ := sub8_bcd hx hy cin
  change (r.res.toNat : Int) = _ at hres
  have hcin := cin.toNat_le
  have hborrow : decide (16 * t + u < 0) = decide (x < y + cin.toNat) := by
    rw [decide_eq_decide]
    omega
  have hfixed : r.res - decimalFix (decide (16 * t + u < 0)) (decide (u < 0)) =
      bcd ((x + 100 - y + 100 - cin.toNat) % 100) := by
    have hv := BitVec.toNat_sub r.res (decimalFix (decide (16 * t + u < 0)) (decide (u < 0)))
    rw [decimalFix_toNat] at hv
    by_cases hhigh : 16 * t + u < 0
    · rw [if_pos hhigh] at hres hv
      split at hv
      · exact eq_bcd_of_digits (t + 9).toNat (u + 10).toNat (by omega) (by omega) (by omega) (by omega)
      · exact eq_bcd_of_digits (t + 10).toNat u.toNat (by omega) (by omega) (by omega) (by omega)
    · rw [if_neg hhigh] at hres hv
      split at hv
      · have hpos : 1 ≤ t := by omega
        exact eq_bcd_of_digits (t - 1).toNat (u + 10).toNat (by omega) (by omega) (by omega) (by omega)
      · have hpos : 0 ≤ t := by omega
        exact eq_bcd_of_digits t.toNat u.toNat (by omega) (by omega) (by omega) (by omega)
  rw [hn, daaFn_after_subtraction, hh, hc, hfixed, hborrow]

end

/-- DAA behind an instruction that writes the result and the flags of `r`. -/
theorem exec_ofAlu_then_daa {op : AluOp} (hop : op ≠ .cp) {src : Src8} {s : State} {r : AluOut} {res : Byte}
    {out : Bool} (hr : aluFn op s.a (s.getSrc src) (s.flag .c) = r) (hdaa : daaFn r.res r.n r.h r.c = (res, out)) :
    ∃ t u, exec (.ofAlu op src) s = .next t ∧ exec .daa t = .next u ∧ u.a = res ∧ u.flag .c = out := by
  refine ⟨_, _, exec_ofAlu_of_ne_cp hop hr, exec_daa _, ?_⟩
  simp only [daa_eq, State.flag_eq, flagOf_flagByte, hdaa, and_self]

/-- Settles O33: ADD and ADC are `add8`, SUB and SBC `sub8`, and DAA corrects both to the decimal digits. -/
theorem daaGivesDecimalArithmetic : Obligations.DaaGivesDecimalArithmetic := by
  intro withCarry src x y s hx hy ha hsrc cin
  have hadd := (aluFn_add_or_adc withCarry s.a (s.getSrc src) (s.flag .c)).trans (congrArg₂ (add8 · · _) ha hsrc)
  have hsub := (aluFn_sub_or_sbc withCarry s.a (s.getSrc src) (s.flag .c)).trans (congrArg₂ (sub8 · · _) ha hsrc)
  exact ⟨exec_ofAlu_then_daa (by cases withCarry <;> decide) hadd (daaFn_add8_bcd hx hy _),
    exec_ofAlu_then_daa (by cases withCarry <;> decide) hsub (daaFn_sub8_bcd hx hy _)⟩

end Sys2Proof.Machine
end

section
/-! PROOF. The byte interface (20_memory.md rules R52 to R54): which storage cell each address reaches, so which
addresses a write is read back at. -/

namespace Sys2Proof.Machine

/-- The storage cell of an address (R52). -/
def cellOf (a : Nat) : Nat := if 0xE000 ≤ a ∧ a < 0xFDFF then a - 0x2000 else a

theorem echoTranslate_ofNat {a : Nat} (ha : a < 65536) : (echoTranslate (BitVec.ofNat 16 a)).toNat = cellOf a := by
  rw [echoTranslate_toNat, BitVec.toNat_ofNat, Nat.mod_eq_of_lt ha, cellOf]

theorem read_ofNat (s : State) {a : Nat} (ha : a < 65536) : s.read (BitVec.ofNat 16 a) = s.mem.cell (cellOf a) := by
  rw [State.read, echoTranslate_ofNat ha]

theorem cell_write_ofNat (s : State) {a : Nat} (ha : a < 65536) (v : Byte) (k : Nat) :
    (s.write (BitVec.ofNat 16 a) v).mem.cell k = if k = cellOf a then v else s.mem.cell k := by
  rw [State.write, Memory.cell_setCell, echoTranslate_ofNat ha]

section
variable (s : State) {a b : Nat} (ha : a < 65536) (hb : b < 65536) (v : Byte)
include ha hb

theorem read_write_same_cell (h : cellOf b = cellOf a) :
    (s.write (BitVec.ofNat 16 a) v).read (BitVec.ofNat 16 b) = v := by
  rw [read_ofNat _ hb, cell_write_ofNat s ha, if_pos h]

theorem read_write_other_cell (h : cellOf b ≠ cellOf a) :
    (s.write (BitVec.ofNat 16 a) v).read (BitVec.ofNat 16 b) = s.read (BitVec.ofNat 16 b) := by
  rw [read_ofNat _ hb, read_ofNat _ hb, cell_write_ofNat s ha, if_neg h]

end

theorem cellOf_echo {k : Nat} (hk : k < 0x1DFF) : cellOf (0xE000 + k) = cellOf (0xC000 + k) := by
  rw [cellOf, cellOf, if_pos (by omega), if_neg (by omega)]
  omega

/-- Two addresses of one cell are the same, or one is in the echo range and the other 0x2000 below it. -/
theorem cellOf_ne {a b : Nat} (hne : b ≠ a) (hup : ¬ (0xC000 ≤ a ∧ a < 0xDDFF ∧ b = a + 0x2000))
    (hdown : ¬ (0xE000 ≤ a ∧ a < 0xFDFF ∧ b = a - 0x2000)) : cellOf b ≠ cellOf a := by
  unfold cellOf
  split <;> split <;> omega

/-- Settles O51: a read and a write of an address are those of its cell, and only the echo pairs share one. -/
theorem echoAliasesBothWays : Obligations.EchoAliasesBothWays := by
  intro s v
  refine ⟨fun k hk => ⟨?_, ?_⟩, ?_, ?_, fun a ha => ?_, fun a b ha hb hne hup hdown => ?_⟩
  · exact read_write_same_cell s (by omega) (by omega) v (cellOf_echo hk).symm
  · exact read_write_same_cell s (by omega) (by omega) v (cellOf_echo hk)
  · exact read_write_other_cell s (a := 0xFDFF) (b := 0xDDFF) (by decide) (by decide) v (by decide)
  · exact read_write_other_cell s (a := 0xDDFF) (b := 0xFDFF) (by decide) (by decide) v (by decide)
  · exact ⟨rfl, cell_write_ofNat s ha v, read_ofNat s ha, read_write_same_cell s ha ha v rfl⟩
  · exact read_write_other_cell s ha hb v (cellOf_ne hne hup hdown)

end Sys2Proof.Machine
end

section
/-! PROOF. The host (60_exceptions.md rules R271, R283 and R284) and the state after reset
(70_reset_and_hazards.md rules R301 and R309). -/

namespace Sys2Proof.Machine

/-! ### The host -/

theorem Run.event_step (s : State) : (Run.mk .running (some s)).event .step = Run.ofStep s (step s) := rfl

/-- No other address reaches the cell of the timing driver. -/
theorem echoTranslate_eq_timing_iff (b : Word) : echoTranslate b = echoTranslate 0xFF44 ↔ b = 0xFF44 := by
  refine ⟨fun h => ?_, congrArg _⟩
  have hcell : (echoTranslate b).toNat = 0xFF44 := congrArg BitVec.toNat h
  have hb := b.isLt
  rw [echoTranslate_toNat] at hcell
  apply BitVec.eq_of_toNat_eq
  rw [show (0xFF44 : Word).toNat = 0xFF44 from rfl]
  split at hcell <;> omega

theorem atDefaultStop_iff (status : RunStatus) (s : State) :
    (Run.mk status (some s)).atDefaultStop = true ↔ s.pc = 0xFFFF := beq_iff_eq

/-- Settles O58: the step faults, and a faulted run takes no further event. -/
theorem faultEndsRunWithStateKept : Obligations.FaultEndsRunWithStateKept := by
  intro s later hillegal
  rw [Run.events, Run.event_step, step_of_illegal hillegal, Run.ofStep]
  exact Run.events_of_ended (by simp) later

/-- Settles O59: the timing driver writes one cell that only 0xFF44 reaches, and the default host tests pc before it
steps. -/
theorem hostTimingAndDefaultStop : Obligations.HostTimingAndDefaultStop := by
  refine ⟨fun s v => ⟨_, rfl, rfl, fun b => ?_⟩, fun s n hpc => ?_, fun s t n hpc hstep => ?_⟩
  · rw [State.read_write]
    simp only [echoTranslate_eq_timing_iff]
  · rw [Run.default, if_pos ((atDefaultStop_iff ..).2 hpc)]
    rfl
  · rw [Run.default, if_neg (mt (atDefaultStop_iff ..).1 hpc), Run.event_step, hstep, Run.ofStep]

/-! ### Reset -/

/-- Zeros stored in a memory that lists no byte leave it as it is. -/
theorem State.writeBlock_zeros {s : State} (hmem : s.mem = []) (a : Word) (n : Nat) :
    s.writeBlock a (List.replicate n 0) = s := by
  induction n generalizing a with
  | zero => rfl
  | succ n ih =>
    rw [List.replicate_succ, State.writeBlock, ih, State.write, hmem]
    exact congrArg (fun m => { s with mem := m }) hmem.symm

/-- Settles O54: a launch with no cartridge stores only the collaborator's bytes, which are all zero here. -/
theorem resetIsLaunchWithoutCartridge : Obligations.ResetIsLaunchWithoutCartridge := by
  refine ⟨rfl, rfl, rfl, fun a => rfl, congrArg Host.Outcome.next ?_⟩
  have hreset : State.reset.setF 0 = State.reset := rfl
  have hblock : ∀ a n, State.reset.writeBlock a (List.replicate n 0) = State.reset := State.writeBlock_zeros rfl
  calc launchState [] BootVram.zero ResetRegs.zero spResetDefault Config.default
    _ = (((State.reset.setF 0).writeBlock 0x8000 (List.replicate 0x1800 0)).writeBlock 0x9904
          (List.replicate 12 0)).writeBlock 0x9924 (List.replicate 12 0) := rfl
    _ = State.reset := by rw [hreset, hblock, hblock, hblock]

end Sys2Proof.Machine
end

section
/-! PROOF. The frame of every instruction (10_state.md rules R22 to R30, 20_memory.md rules R52 to R55): where pc goes,
which flags, SP, IME and memory bytes can change. Said once for all instructions; the whole-machine rules are its
parts. -/

namespace Sys2Proof.Machine

/-! ### Bytes stored one after the other -/

/-- The second storage is the first with one byte written at each of the addresses, in order (R54). -/
inductive Stored : List Word → Memory → Memory → Prop
  | nil {m : Memory} : Stored [] m m
  | cons {a : Word} {addrs : List Word} {m m' : Memory} (v : Byte)
      (rest : Stored addrs (m.setCell (echoTranslate a).toNat v) m') : Stored (a :: addrs) m m'

theorem Stored.cell {addrs : List Word} {m m' : Memory} (h : Stored addrs m m') {k : Nat}
    (hk : ∀ a ∈ addrs, k ≠ (echoTranslate a).toNat) : m'.cell k = m.cell k := by
  induction h with
  | nil => rfl
  | cons v rest ih =>
    rw [ih fun a ha => hk a (List.mem_cons_of_mem _ ha), Memory.cell_setCell, if_neg (hk _ List.mem_cons_self)]

/-- Where an 8-bit operand is stored: a register nowhere in memory. -/
def storedOperand (s : State) : Operand8 → List Word
  | .reg _ => []
  | .indHl => [s.hl]

theorem stored_set8 (s : State) (k : Operand8) (v : Byte) : Stored (storedOperand s k) s.mem (s.set8 k v).mem := by
  cases k with
  | reg r =>
    rw [State.set8, State.mem_setReg]
    exact .nil
  | indHl => exact .cons v .nil

theorem stored_pushed (s : State) (v : Word) : Stored (pushedAt s) s.mem (pushed s v).mem := .cons _ (.cons _ .nil)

/-! ### Flags -/

/-- F after an instruction that writes no flag but those listed: the others are kept, and F is as it was or has its
low bits zero (10_state.md rule R22). -/
structure FlagsKept (written : List Flag) (f f' : Byte) : Prop where
  low : f' = f ∨ f' &&& 0x0F = 0
  flag : ∀ g, g ∉ written → flagOf f' g = flagOf f g

theorem FlagsKept.refl (written : List Flag) (f : Byte) : FlagsKept written f f := ⟨.inl rfl, fun _ _ => rfl⟩

theorem FlagsKept.flagByte {written : List Flag} {f : Byte} {z n h c : Bool} (hz : .z ∈ written ∨ z = flagOf f .z)
    (hn : .n ∈ written ∨ n = flagOf f .n) (hh : .h ∈ written ∨ h = flagOf f .h)
    (hc : .c ∈ written ∨ c = flagOf f .c) : FlagsKept written f (flagByte z n h c) := by
  refine ⟨.inr (flagByte_low ..), fun g hg => ?_⟩
  rw [flagOf_flagByte]
  cases g with
  | z => exact hz.resolve_left hg
  | n => exact hn.resolve_left hg
  | h => exact hh.resolve_left hg
  | c => exact hc.resolve_left hg

theorem FlagsKept.all (f : Byte) (z n h c : Bool) : FlagsKept [.z, .n, .h, .c] f (Machine.flagByte z n h c) :=
  .flagByte (.inl (by decide)) (.inl (by decide)) (.inl (by decide)) (.inl (by decide))

theorem FlagsKept.znh (s : State) (z n h : Bool) : FlagsKept [.z, .n, .h] s.f (Machine.flagByte z n h (s.flag .c)) :=
  .flagByte (.inl (by decide)) (.inl (by decide)) (.inl (by decide)) (.inr rfl)

theorem FlagsKept.nhc (s : State) (n h c : Bool) : FlagsKept [.n, .h, .c] s.f (Machine.flagByte (s.flag .z) n h c) :=
  .flagByte (.inr rfl) (.inl (by decide)) (.inl (by decide)) (.inl (by decide))

/-! ### The frame -/

/-- What an instruction that completes can change. -/
structure Frame (i : Instr) (s t : State) : Prop where
  pc : (t.pc = s.pc + BitVec.ofNat 16 (i.width s.cfg) ∧ alwaysJumps i = false) ∨ jumpTarget s i = some t.pc
  sp : writesSp i = false → t.sp = s.sp
  ime : writesIme i = false → t.ime = s.ime
  cfg : t.cfg = s.cfg
  mem : Stored (storedAt s i) s.mem t.mem
  flags : FlagsKept (writtenFlags (encode i)) s.f t.f

/-- What the tables say of an instruction that goes on to the next one: its width, its flags and where it stores. -/
structure Tables (i : Instr) (s : State) (width : Nat) (flags : List Flag) (addrs : List Word) : Prop where
  width : i.width s.cfg = width
  flags : writtenFlags (encode i) = flags
  stored : storedAt s i = addrs
  falls : alwaysJumps i = false

/-- But for 0xCB, the opcode byte alone says which flags are written. -/
theorem writtenFlags_cons {o : Byte} (ho : o ≠ 0xCB) (ops : List Byte) :
    writtenFlags (o :: ops) = writtenFlags [o] := by
  unfold writtenFlags
  simp only [List.headD_cons]
  split
  case h_13 hx hz hy =>
    rw [← opcode_fields o, hx, hz, hy] at ho
    exact absurd rfl ho
  all_goals rfl

/-- The flags that the secondary map's four groups write. -/
def secondaryFlags : Fin 4 → List Flag
  | 0 => [.z, .n, .h, .c]
  | 1 => [.z, .n, .h]
  | 2 => []
  | 3 => []

theorem writtenFlags_prefix (cbop : Byte) : writtenFlags [0xCB, cbop] = secondaryFlags (fieldX cbop) := by
  revert cbop; decide

section
variable {i : Instr} {s t : State} {width : Nat} {flags : List Flag} {addrs : List Word}

theorem Tables.of_opcode {o : Byte} {ops : List Byte} (henc : encode i = o :: ops) (ho : o ≠ 0xCB)
    (hwidth : i.width s.cfg = width) (hflags : writtenFlags [o] = flags) (hstored : storedAt s i = addrs)
    (hfalls : alwaysJumps i = false) : Tables i s width flags addrs :=
  ⟨hwidth, by rw [henc, writtenFlags_cons ho, hflags], hstored, hfalls⟩

theorem Frame.of_tables (tab : Tables i s width flags addrs) (hpc : t.pc = s.pc + BitVec.ofNat 16 width)
    (hsp : writesSp i = false → t.sp = s.sp) (hime : writesIme i = false → t.ime = s.ime) (hcfg : t.cfg = s.cfg)
    (hmem : Stored addrs s.mem t.mem) (hflags : FlagsKept flags s.f t.f) : Frame i s t := by
  obtain ⟨rfl, rfl, rfl, hfalls⟩ := tab
  exact ⟨.inl ⟨hpc, hfalls⟩, hsp, hime, hcfg, hmem, hflags⟩

/-- Registers, flags and pc are written, nothing is stored. -/
theorem Frame.of_registers (tab : Tables i s width flags [])
    (ht : t = { s with a := t.a, f := t.f, b := t.b, c := t.c, d := t.d, e := t.e, h := t.h, l := t.l
                       pc := s.pc + BitVec.ofNat 16 width })
    (hflags : FlagsKept flags s.f t.f) : Frame i s t := by
  refine .of_tables tab ?_ ?_ ?_ ?_ ?_ hflags <;> rw [ht]
  · exact fun _ => rfl
  · exact fun _ => rfl
  · exact .nil

/-- An operand, flags and pc are written. -/
theorem Frame.of_set8 {k : Operand8} {v f : Byte} (tab : Tables i s width flags (storedOperand s k))
    (hflags : FlagsKept flags s.f f) : Frame i s { s.set8 k v with f := f, pc := s.pc + BitVec.ofNat 16 width } :=
  .of_tables tab rfl (fun _ => s.sp_set8 k v) (fun _ => s.ime_set8 k v) (s.cfg_set8 k v) (stored_set8 s k v) hflags

end

/-- From every state the instruction answers a next state within its frame, or none. -/
def Framed (i : Instr) : Prop := ∀ s t : State, exec i s = .next t → Frame i s t

theorem Framed.of_exec {i : Instr} {f : State → State} (hexec : ∀ s, exec i s = .next (f s))
    (hframe : ∀ s, Frame i s (f s)) : Framed i := by
  intro s t h
  rw [hexec] at h
  cases h
  exact hframe s

theorem exec_illegal_ne_next (op : Byte) (s t : State) : exec (.illegal op) s ≠ .next t := by
  rw [exec_illegal, execIllegal]
  split
  · nofun
  · nofun

/-! ### Arithmetic, logic, INC and DEC -/

theorem tables_ofAlu (op : AluOp) (src : Src8) (s : State) :
    Tables (.ofAlu op src) s (srcWidth src) [.z, .n, .h, .c] [] := by
  cases src with
  | reg r => cases op <;> cases r <;> exact ⟨rfl, rfl, rfl, rfl⟩
  | indHl => cases op <;> exact ⟨rfl, rfl, rfl, rfl⟩
  | imm n => cases op <;> exact .of_opcode rfl (by decide) rfl rfl rfl rfl

theorem framed_ofAlu (op : AluOp) (src : Src8) : Framed (.ofAlu op src) := by
  refine .of_exec (exec_alu · op src) fun s => ?_
  rw [alu_eq, State.nextPc_eq]
  exact .of_registers (tables_ofAlu op src s) rfl (.all ..)

theorem framed_ofAddHl (p : Pair) : Framed (.ofAddHl p) := by
  refine .of_exec (exec_addHl · p) fun s => ?_
  have tab : Tables (.ofAddHl p) s 1 [.n, .h, .c] [] := by cases p <;> exact ⟨rfl, rfl, rfl, rfl⟩
  rw [addHl_eq, State.nextPc_eq]
  exact .of_registers tab rfl (.nhc ..)

theorem framed_addSpE8 (e : Byte) : Framed (.addSpE8 e) := by
  refine .of_exec (exec_addSpE8 · e) fun s => ?_
  rw [addSp_eq, State.nextPc_eq]
  have tab : Tables (.addSpE8 e) s 2 [.z, .n, .h, .c] [] := .of_opcode rfl (by decide) rfl rfl rfl rfl
  exact .of_tables tab rfl nofun (fun _ => rfl) rfl .nil (.all ..)

theorem framed_ofInc8 (k : Operand8) : Framed (.ofInc8 k) := by
  refine .of_exec (exec_ofInc8 k) fun s => .of_set8 (flags := [.z, .n, .h]) (width := 1) ?_ (.znh ..)
  cases k with
  | reg r => cases r <;> exact ⟨rfl, rfl, rfl, rfl⟩
  | indHl => exact ⟨rfl, rfl, rfl, rfl⟩

theorem framed_ofDec8 (k : Operand8) : Framed (.ofDec8 k) := by
  refine .of_exec (exec_ofDec8 k) fun s => .of_set8 (flags := [.z, .n, .h]) (width := 1) ?_ (.znh ..)
  cases k with
  | reg r => cases r <;> exact ⟨rfl, rfl, rfl, rfl⟩
  | indHl => exact ⟨rfl, rfl, rfl, rfl⟩

/-- A pair is written, and SP only by the instructions that may. -/
theorem Frame.of_setPair {i : Instr} {s : State} {width : Nat} {p : Pair} {v : Word} (tab : Tables i s width [] [])
    (hsp : writesSp i = false → p ≠ .sp) : Frame i s { s.setPair p v with pc := s.pc + BitVec.ofNat 16 width } := by
  refine .of_tables tab rfl (fun h => ?_) (fun _ => s.ime_setPair p v) (s.cfg_setPair p v) ?_ ?_
  · cases p with
    | bc | de | hl => rfl
    | sp => exact absurd rfl (hsp h)
  · rw [State.mem_setPair]
    exact .nil
  · rw [State.f_setPair]
    exact .refl ..

theorem framed_ofInc16 (p : Pair) : Framed (.ofInc16 p) := by
  refine .of_exec (exec_ofInc16 p) fun s => .of_setPair (width := 1) ?_ ?_
  · cases p <;> exact ⟨rfl, rfl, rfl, rfl⟩
  · rintro h rfl
    cases h

theorem framed_ofDec16 (p : Pair) : Framed (.ofDec16 p) := by
  refine .of_exec (exec_ofDec16 p) fun s => .of_setPair (width := 1) ?_ ?_
  · cases p <;> exact ⟨rfl, rfl, rfl, rfl⟩
  · rintro h rfl
    cases h

theorem framed_ofLdPair (p : Pair) (nn : Word) : Framed (.ofLdPair p nn) := by
  refine .of_exec (exec_ofLdPair p nn) fun s => .of_setPair (width := 3) ?_ ?_
  · cases p <;> exact .of_opcode rfl (by decide) rfl rfl rfl rfl
  · rintro h rfl
    cases h

/-! ### Rotates, shifts and bits, and PREFIX CB -/

section
variable {i : Instr} {s : State} {k : Operand8}

theorem frame_shift (op : ShiftOp) (tab : Tables i s 2 [.z, .n, .h, .c] (storedOperand s k)) :
    Frame i s (shift op k s) := by
  rw [shift_eq, State.nextPc_eq]
  exact .of_set8 tab (.all ..)

theorem frame_bitTest (b : Fin 8) (tab : Tables i s 2 [.z, .n, .h] []) : Frame i s (bitTest b k s) := by
  rw [bitTest_eq, State.nextPc_eq]
  exact .of_registers tab rfl (.znh ..)

theorem frame_set8_advance (v : Byte) (tab : Tables i s 2 [] (storedOperand s k)) :
    Frame i s ((s.set8 k v).advance 2) := by
  rw [State.advance_set8]
  refine .of_set8 tab ?_
  rw [State.f_set8]
  exact .refl ..

end

theorem framed_ofShift (op : ShiftOp) (k : Operand8) : Framed (.ofShift op k) := by
  refine .of_exec (exec_shift · op k) fun s => frame_shift op ?_
  cases k with
  | reg r => cases op <;> cases r <;> exact ⟨rfl, rfl, rfl, rfl⟩
  | indHl => cases op <;> exact ⟨rfl, rfl, rfl, rfl⟩

theorem framed_ofBit (b : Fin 8) (k : Operand8) : Framed (.ofBit b k) := by
  refine .of_exec (exec_bit · b k) fun s => frame_bitTest b ?_
  cases k with
  | reg r => fin_cases b <;> cases r <;> exact ⟨rfl, rfl, rfl, rfl⟩
  | indHl => fin_cases b <;> exact ⟨rfl, rfl, rfl, rfl⟩

theorem framed_ofRes (b : Fin 8) (k : Operand8) : Framed (.ofRes b k) := by
  refine .of_exec (exec_res · b k) fun s => frame_set8_advance _ ?_
  cases k with
  | reg r => fin_cases b <;> cases r <;> exact ⟨rfl, rfl, rfl, rfl⟩
  | indHl => fin_cases b <;> exact ⟨rfl, rfl, rfl, rfl⟩

theorem framed_ofSet (b : Fin 8) (k : Operand8) : Framed (.ofSet b k) := by
  refine .of_exec (exec_set · b k) fun s => frame_set8_advance _ ?_
  cases k with
  | reg r => fin_cases b <;> cases r <;> exact ⟨rfl, rfl, rfl, rfl⟩
  | indHl => fin_cases b <;> exact ⟨rfl, rfl, rfl, rfl⟩

theorem frame_rotateA {i : Instr} {s : State} (op : ShiftOp) (tab : Tables i s 1 [.z, .n, .h, .c] []) :
    Frame i s (rotateA op s) := by
  rw [rotateA_eq, State.nextPc_eq]
  exact .of_registers tab rfl (.all ..)

/-- PREFIX CB stores where its secondary instruction does: BIT nowhere, the others at their operand. -/
theorem storedAt_prefixCb (cbop : Byte) (s : State) :
    storedAt s (.prefixCb cbop) = if fieldX cbop = 1 then [] else storedOperand s (operandOf (fieldZ cbop)) := by
  have hdef : storedAt s (.prefixCb cbop) =
      if fieldX cbop ≠ 1 ∧ operandOf (fieldZ cbop) = .indHl then [s.hl] else [] := rfl
  rw [hdef]
  by_cases hx : fieldX cbop = 1
  · simp [hx]
  · cases operandOf (fieldZ cbop) <;> simp [hx, storedOperand]

theorem tables_prefixCb {cbop : Byte} {s : State} {flags : List Flag} {addrs : List Word}
    (hflags : secondaryFlags (fieldX cbop) = flags)
    (hstored : (if fieldX cbop = 1 then [] else storedOperand s (operandOf (fieldZ cbop))) = addrs) :
    Tables (.prefixCb cbop) s 2 flags addrs :=
  ⟨rfl, (writtenFlags_prefix cbop).trans hflags, (storedAt_prefixCb cbop s).trans hstored, rfl⟩

theorem framed_prefixCb (cbop : Byte) : Framed (.prefixCb cbop) := by
  intro s t h
  rw [exec_prefixCb, execPrefixCb] at h
  split at h <;> cases h
  · next hx => exact frame_shift _ (tables_prefixCb (by rw [hx]; rfl) (by rw [hx]; rfl))
  · next hx => exact frame_bitTest _ (tables_prefixCb (by rw [hx]; rfl) (by rw [hx]; rfl))
  · next hx => exact frame_set8_advance _ (tables_prefixCb (by rw [hx]; rfl) (by rw [hx]; rfl))
  · next hx => exact frame_set8_advance _ (tables_prefixCb (by rw [hx]; rfl) (by rw [hx]; rfl))

/-! ### Loads, stores and the stack -/

theorem framed_ofLdReg (r : Reg8) (src : Src8) : Framed (.ofLdReg r src) := by
  refine .of_exec (exec_ofLdReg r src) fun s => ?_
  have tab : Tables (.ofLdReg r src) s (srcWidth src) [] [] := by
    cases src with
    | reg q => cases r <;> cases q <;> exact ⟨rfl, rfl, rfl, rfl⟩
    | indHl => cases r <;> exact ⟨rfl, rfl, rfl, rfl⟩
    | imm n => cases r <;> exact .of_opcode rfl (by decide) rfl rfl rfl rfl
  have hflags : FlagsKept [] s.f (s.setReg r (s.getSrc src)).f := by
    rw [State.f_setReg]
    exact .refl ..
  exact .of_set8 (k := .reg r) tab hflags

theorem frame_ldIndHl {i : Instr} {s : State} (src : Src8) (tab : Tables i s (srcWidth src) [] [s.hl]) :
    Frame i s (ldIndHl src s) := by
  rw [ldIndHl_eq]
  exact .of_set8 (k := .indHl) tab (.refl ..)

theorem framed_ofStoreA (m : AddrMode) : Framed (.ofStoreA m) := by
  refine .of_exec (exec_storeA · m) fun s => ?_
  have tab : Tables (.ofStoreA m) s (modeWidth m) [] [s.effAddr m] := by
    cases m with
    | indBc | indDe | hlInc | hlDec | zeroPageC => exact ⟨rfl, rfl, rfl, rfl⟩
    | zeroPage | abs => exact .of_opcode rfl (by decide) rfl rfl rfl rfl
  rw [storeA_eq, State.nextPc_eq]
  exact .of_tables tab rfl (fun _ => rfl) (fun _ => rfl) rfl (.cons _ .nil) (.refl ..)

theorem framed_ofLoadA (m : AddrMode) : Framed (.ofLoadA m) := by
  refine .of_exec (exec_loadA · m) fun s => ?_
  have tab : Tables (.ofLoadA m) s (modeWidth m) [] [] := by
    cases m with
    | indBc | indDe | hlInc | hlDec | zeroPageC => exact ⟨rfl, rfl, rfl, rfl⟩
    | zeroPage | abs => exact .of_opcode rfl (by decide) rfl rfl rfl rfl
  rw [loadA_eq, State.nextPc_eq]
  refine .of_tables tab rfl (fun _ => s.sp_postModify m) (fun _ => s.ime_postModify m) (s.cfg_postModify m) ?_ ?_
  · rw [State.mem_postModify]
    exact .nil
  · rw [State.f_postModify]
    exact .refl ..

theorem framed_ldIndA16Sp (nn : Word) : Framed (.ldIndA16Sp nn) := by
  refine .of_exec (exec_ldIndA16Sp · nn) fun s => ?_
  have tab : Tables (.ldIndA16Sp nn) s 3 [] [nn, nn + 1] := .of_opcode rfl (by decide) rfl rfl rfl rfl
  rw [storeSp_eq]
  exact .of_tables tab rfl (fun _ => rfl) (fun _ => rfl) rfl (.cons _ (.cons _ .nil)) (.refl ..)

theorem framed_ldSpHl : Framed .ldSpHl := by
  refine .of_exec exec_ldSpHl fun s => ?_
  rw [ldSpFromHl, State.advance_eq]
  exact .of_tables (flags := []) ⟨rfl, rfl, rfl, rfl⟩ rfl nofun (fun _ => rfl) rfl .nil (.refl ..)

theorem framed_ldHlSpE8 (e : Byte) : Framed (.ldHlSpE8 e) := by
  refine .of_exec (exec_ldHlSpE8 · e) fun s => ?_
  have tab : Tables (.ldHlSpE8 e) s 2 [.z, .n, .h, .c] [] := .of_opcode rfl (by decide) rfl rfl rfl rfl
  rw [ldHlFromSp_eq, State.nextPc_eq]
  exact .of_registers tab rfl (.all ..)

theorem framed_ofPush (p : StackPair) : Framed (.ofPush p) := by
  refine .of_exec (exec_ofPush p) fun s => ?_
  have tab : Tables (.ofPush p) s 1 [] (pushedAt s) := by cases p <;> exact ⟨rfl, rfl, rfl, rfl⟩
  refine .of_tables tab rfl ?_ (fun _ => rfl) rfl (stored_pushed s (s.getStackPair p)) (.refl ..)
  cases p <;> nofun

/-- POP AF writes all four flags and masks F's low bits; the other pairs leave F. -/
theorem framed_ofPop (p : StackPair) : Framed (.ofPop p) := by
  refine .of_exec (exec_ofPop p) fun s => ?_
  have hlow := maskF_low (loByte (stackTop s))
  cases p with
  | bc | de | hl =>
    exact .of_tables (width := 1) (flags := []) ⟨rfl, rfl, rfl, rfl⟩ rfl nofun (fun _ => rfl) rfl .nil (.refl ..)
  | af =>
    refine .of_tables (width := 1) (flags := [.z, .n, .h, .c]) ⟨rfl, rfl, rfl, rfl⟩ rfl nofun (fun _ => rfl) rfl .nil
      ⟨.inr hlow, fun g hg => ?_⟩
    cases g <;> exact absurd (by decide) hg

/-! ### Control flow -/

theorem Frame.of_jump {i : Instr} {s : State} {target : Word} (htarget : jumpTarget s i = some target)
    (hstored : storedAt s i = []) : Frame i s { s with pc := target } :=
  ⟨.inr htarget, fun _ => rfl, fun _ => rfl, rfl, hstored ▸ .nil, .refl ..⟩

theorem framed_jpA16 (nn : Word) : Framed (.jpA16 nn) := .of_exec (exec_jpA16 · nn) fun _ => .of_jump rfl rfl

theorem framed_jpHl : Framed .jpHl := .of_exec exec_jpHl fun _ => .of_jump rfl rfl

theorem framed_jrE8 (e : Byte) : Framed (.jrE8 e) := .of_exec (exec_jrE8_eq e) fun _ => .of_jump rfl rfl

theorem Frame.of_call {i : Instr} {s : State} {v target : Word} (htarget : jumpTarget s i = some target)
    (hsp : writesSp i = true) (hstored : storedAt s i = pushedAt s) :
    Frame i s { pushed s v with pc := target } :=
  ⟨.inr htarget, fun h => absurd h (by simp [hsp]), fun _ => rfl, rfl, hstored ▸ stored_pushed s v, .refl ..⟩

theorem framed_callA16 (nn : Word) : Framed (.callA16 nn) := .of_exec (exec_callA16_eq nn) fun s =>
  .of_call (v := s.pc + 3) (target := nn) rfl rfl rfl

theorem framed_ofRst (y : Fin 8) : Framed (.ofRst y) := by
  refine .of_exec (exec_ofRst y) fun s => .of_call ?_ ?_ ?_
  · fin_cases y <;> rfl
  · fin_cases y <;> rfl
  · fin_cases y <;> rfl

theorem Frame.of_ret {i : Instr} {s : State} {ime : Bool} (htarget : jumpTarget s i = some (stackTop s))
    (hsp : writesSp i = true) (hime : writesIme i = false → ime = s.ime) (hstored : storedAt s i = []) :
    Frame i s { s with sp := s.sp + 2, pc := stackTop s, ime := ime } :=
  ⟨.inr htarget, fun h => absurd h (by simp [hsp]), hime, rfl, hstored ▸ .nil, .refl ..⟩

theorem framed_ret : Framed .ret := .of_exec exec_ret_eq fun _ => .of_ret rfl rfl (fun _ => rfl) rfl

theorem framed_reti : Framed .reti := .of_exec exec_reti_eq fun _ => .of_ret rfl rfl nofun rfl

theorem Frame.of_not_taken {i : Instr} {s : State} {width : Nat} (hwidth : i.width s.cfg = width)
    (hfalls : alwaysJumps i = false) (hstored : storedAt s i = []) :
    Frame i s { s with pc := s.pc + BitVec.ofNat 16 width } :=
  ⟨.inl ⟨by rw [hwidth], hfalls⟩, fun _ => rfl, fun _ => rfl, rfl, hstored ▸ .nil, .refl ..⟩

theorem framed_ofJpCond (cc : Cond) (nn : Word) : Framed (.ofJpCond cc nn) := by
  refine .of_exec (exec_ofJpCond cc nn) fun s => ?_
  split
  · cases cc <;> exact .of_jump rfl rfl
  · cases cc <;> exact .of_not_taken (width := 3) rfl rfl rfl

theorem framed_ofJrCond (cc : Cond) (e : Byte) : Framed (.ofJrCond cc e) := by
  refine .of_exec (exec_ofJrCond cc e) fun s => ?_
  split
  · cases cc <;> exact .of_jump rfl rfl
  · cases cc <;> exact .of_not_taken (width := 2) rfl rfl rfl

theorem storedAt_ofCallCond (cc : Cond) (nn : Word) (s : State) :
    storedAt s (.ofCallCond cc nn) = if s.holds cc then pushedAt s else [] := by cases cc <;> rfl

theorem framed_ofCallCond (cc : Cond) (nn : Word) : Framed (.ofCallCond cc nn) := by
  refine .of_exec (exec_ofCallCond cc nn) fun s => ?_
  have hstored := storedAt_ofCallCond cc nn s
  split
  · next hcc =>
    rw [if_pos hcc] at hstored
    exact .of_call (by cases cc <;> rfl) (by cases cc <;> rfl) hstored
  · next hcc =>
    rw [if_neg hcc] at hstored
    exact .of_not_taken (width := 3) (by cases cc <;> rfl) (by cases cc <;> rfl) hstored

theorem framed_ofRetCond (cc : Cond) : Framed (.ofRetCond cc) := by
  refine .of_exec (exec_ofRetCond cc) fun s => ?_
  split
  · cases cc <;> exact .of_ret rfl rfl (fun _ => rfl) rfl
  · cases cc <;> exact .of_not_taken (width := 1) rfl rfl rfl

/-! ### Flags and the rest -/

theorem Frame.of_advance {i : Instr} {s : State} {width : Nat} (hwidth : i.width s.cfg = width)
    (hfalls : alwaysJumps i = false) (hstored : storedAt s i = []) : Frame i s (s.advance width) := by
  rw [State.advance_eq]
  exact .of_not_taken hwidth hfalls hstored

theorem frame_set_ime {i : Instr} {s : State} (b : Bool) (tab : Tables i s 1 [] []) (hime : writesIme i = true) :
    Frame i s (({ s with ime := b } : State).advance 1) := by
  rw [State.advance_eq]
  exact .of_tables tab rfl (fun _ => rfl) (fun h => absurd h (by simp [hime])) rfl .nil (.refl ..)

theorem framed_daa : Framed .daa := by
  refine .of_exec exec_daa fun s => ?_
  rw [daa_eq, State.nextPc_eq]
  exact .of_registers (flags := [.z, .h, .c]) ⟨rfl, rfl, rfl, rfl⟩ rfl
    (.flagByte (.inl (by decide)) (.inr rfl) (.inl (by decide)) (.inl (by decide)))

theorem framed_cpl : Framed .cpl := by
  refine .of_exec exec_cpl fun s => ?_
  rw [cpl_eq, State.nextPc_eq]
  exact .of_registers (flags := [.n, .h]) ⟨rfl, rfl, rfl, rfl⟩ rfl
    (.flagByte (.inr rfl) (.inl (by decide)) (.inl (by decide)) (.inr rfl))

theorem frame_setNhc {i : Instr} {s : State} (c : Bool) (tab : Tables i s 1 [.n, .h, .c] []) :
    Frame i s ((s.setNhc false false c).advance 1) := by
  rw [advance_setNhc_eq]
  exact .of_registers tab rfl (.nhc ..)

/-- Every instruction keeps to its frame (10_state.md rules R22 to R30, 20_memory.md rules R52 to R55). -/
theorem framed (i : Instr) : Framed i := by
  cases shape i with
  | alu op src => exact framed_ofAlu op src
  | addHl p => exact framed_ofAddHl p
  | addSpE8 e => exact framed_addSpE8 e
  | inc8 k => exact framed_ofInc8 k
  | dec8 k => exact framed_ofDec8 k
  | inc16 p => exact framed_ofInc16 p
  | dec16 p => exact framed_ofDec16 p
  | shift op k => exact framed_ofShift op k
  | rlca => exact .of_exec exec_rlca fun _ => frame_rotateA _ ⟨rfl, rfl, rfl, rfl⟩
  | rrca => exact .of_exec exec_rrca fun _ => frame_rotateA _ ⟨rfl, rfl, rfl, rfl⟩
  | rla => exact .of_exec exec_rla fun _ => frame_rotateA _ ⟨rfl, rfl, rfl, rfl⟩
  | rra => exact .of_exec exec_rra fun _ => frame_rotateA _ ⟨rfl, rfl, rfl, rfl⟩
  | bit b k => exact framed_ofBit b k
  | res b k => exact framed_ofRes b k
  | set b k => exact framed_ofSet b k
  | ldReg r src => exact framed_ofLdReg r src
  | ldIndHl r =>
    refine .of_exec (exec_ldIndHl · r) fun s => frame_ldIndHl _ ?_
    cases r <;> exact ⟨rfl, rfl, rfl, rfl⟩
  | ldIndHlD8 n =>
    exact .of_exec (exec_ldIndHlD8 · n) fun s => frame_ldIndHl _ (.of_opcode rfl (by decide) rfl rfl rfl rfl)
  | ldPair p nn => exact framed_ofLdPair p nn
  | storeA m => exact framed_ofStoreA m
  | loadA m => exact framed_ofLoadA m
  | ldIndA16Sp nn => exact framed_ldIndA16Sp nn
  | ldSpHl => exact framed_ldSpHl
  | ldHlSpE8 e => exact framed_ldHlSpE8 e
  | push p => exact framed_ofPush p
  | pop p => exact framed_ofPop p
  | jpA16 nn => exact framed_jpA16 nn
  | jpHl => exact framed_jpHl
  | jrE8 e => exact framed_jrE8 e
  | callA16 nn => exact framed_callA16 nn
  | ret => exact framed_ret
  | reti => exact framed_reti
  | jpCond cc nn => exact framed_ofJpCond cc nn
  | jrCond cc e => exact framed_ofJrCond cc e
  | callCond cc nn => exact framed_ofCallCond cc nn
  | retCond cc => exact framed_ofRetCond cc
  | rst y => exact framed_ofRst y
  | nop => exact .of_exec exec_nop fun _ => .of_advance rfl rfl rfl
  | halt => exact .of_exec exec_halt fun _ => .of_advance rfl rfl rfl
  | stop n => exact .of_exec (exec_stop · n) fun _ => .of_advance rfl rfl rfl
  | di => exact .of_exec exec_di fun _ => frame_set_ime false ⟨rfl, rfl, rfl, rfl⟩ rfl
  | ei => exact .of_exec exec_ei fun _ => frame_set_ime true ⟨rfl, rfl, rfl, rfl⟩ rfl
  | daa => exact framed_daa
  | cpl => exact framed_cpl
  | scf => exact .of_exec exec_scf fun _ => frame_setNhc _ ⟨rfl, rfl, rfl, rfl⟩
  | ccf => exact .of_exec exec_ccf fun _ => frame_setNhc _ ⟨rfl, rfl, rfl, rfl⟩
  | illegal op => exact fun s t h => absurd h (exec_illegal_ne_next op s t)
  | prefixCb cbop => exact framed_prefixCb cbop

end Sys2Proof.Machine
end

section
/-! PROOF. The whole-machine rules (10_state.md, 20_memory.md), each a part of the frame of every instruction, and the
invariant, which the frame and the launch keep. -/

namespace Sys2Proof.Machine

/-! ### The invariant of the storage -/

/-- Storage in its canonical form with no byte behind the echo range (20_memory.md rules R50 and R52). -/
structure Memory.Clean (m : Memory) : Prop where
  wf : m.wf = true
  seen : ∀ c ∈ m, hiddenCell c.1 = false

theorem State.inv_iff (s : State) : s.inv = true ↔ s.mem.Clean ∧ s.f &&& 0x0F = 0 := by
  simp only [State.inv, Bool.and_eq_true, List.all_eq_true, Bool.not_eq_true', beq_iff_eq]
  exact and_congr_left fun _ => ⟨fun ⟨hwf, hseen⟩ => ⟨hwf, hseen⟩, fun h => ⟨h.wf, h.seen⟩⟩

theorem Memory.clean_nil : Memory.Clean [] := ⟨rfl, nofun⟩

theorem Memory.Clean.setCell {m : Memory} (h : m.Clean) {a : Nat} (ha : a < 65536) (hseen : hiddenCell a = false)
    (v : Byte) : (m.setCell a v).Clean := by
  refine ⟨Memory.wf_setCell h.wf ha v, fun c hc => ?_⟩
  obtain ⟨rfl, -⟩ | ⟨hmem, -⟩ := (Memory.mem_setCell m a v c).1 hc
  · exact hseen
  · exact h.seen c hmem

/-- The byte interface reaches no cell behind the echo range. -/
theorem Memory.Clean.write {m : Memory} (h : m.Clean) (a : Word) (v : Byte) :
    (m.setCell (echoTranslate a).toNat v).Clean :=
  h.setCell (echoTranslate_lt a) (echoTranslate_not_hidden a) v

theorem Memory.Clean.stored {addrs : List Word} {m m' : Memory} (h : m.Clean) (hstored : Stored addrs m m') :
    m'.Clean := by
  induction hstored with
  | nil => exact h
  | cons v rest ih => exact ih (h.write _ v)

theorem Memory.Clean.writeBlock {s : State} (h : s.mem.Clean) (a : Word) (vs : List Byte) :
    (s.writeBlock a vs).mem.Clean := by
  induction vs generalizing a with
  | nil => exact h
  | cons v vs ih => exact (ih (a + 1)).write a v

/-- The bank copy ends below the echo range. -/
theorem Memory.Clean.copyBanks {m : Memory} (h : m.Clean) (image : List Byte) {n : Nat} (hn : n ≤ 0x8000) :
    (copyBanks image n m).Clean := by
  induction n generalizing m with
  | zero => exact h
  | succ n ih =>
    have hseen : hiddenCell n = false := by
      rw [hiddenCell, decide_eq_false (by omega), Bool.false_and]
    exact ih (h.setCell (by omega) hseen _) (by omega)

theorem clean_cartStorage (cart : Option (List Byte)) : (cartStorage cart).Clean := by
  cases cart with
  | none => exact Memory.clean_nil
  | some image => exact Memory.clean_nil.copyBanks image (Nat.le_refl _)

theorem inv_launchState {m : Memory} (h : m.Clean) (vram : BootVram) (regs : ResetRegs) (sp : Word) (cfg : Config) :
    (launchState m vram regs sp cfg).inv = true := by
  rw [State.inv_iff]
  refine ⟨((h.writeBlock _ _).writeBlock _ _).writeBlock _ _, ?_⟩
  rw [launchState_eq]
  exact maskF_low regs.f

/-! ### The statements -/

/-- Settles O43: a step stores through the byte interface, and what it writes to F has the low bits zero. -/
theorem stepKeepsStateInvariant : Obligations.StepKeepsStateInvariant := by
  intro s t hinv hstep
  have hframe := framed _ s t hstep
  rw [State.inv_iff] at hinv ⊢
  obtain ⟨hclean, hlow⟩ := hinv
  refine ⟨hclean.stored hframe.mem, ?_⟩
  obtain hsame | hzero := hframe.flags.low
  · rw [hsame, hlow]
  · exact hzero

/-- Settles O44: the launch stores below the echo range or through the byte interface, and the write of F masks. -/
theorem resetAndLaunchMeetInvariant : Obligations.ResetAndLaunchMeetInvariant := by
  refine ⟨rfl, fun cart vram regs sp cfg t hlaunch => ?_⟩
  rw [launch_next hlaunch]
  exact inv_launchState (clean_cartStorage cart) vram regs sp cfg

/-- Settles O45: `Frame.pc`. -/
theorem pcIsNextOrTarget : Obligations.PcIsNextOrTarget := by
  intro i s t _ h
  obtain ⟨hnext, hfalls⟩ | htarget := (framed i s t h).pc
  · exact ⟨.inl hnext, fun halways => absurd halways (by simp [hfalls])⟩
  · exact ⟨.inr htarget, fun _ => htarget⟩

/-- Settles O46: `Frame.flags`. -/
theorem flagsChangeOnlyWhereListed : Obligations.FlagsChangeOnlyWhereListed := fun i s t g h hg =>
  (framed i s t h).flags.flag g hg

/-- Settles O47: `Frame.sp`. -/
theorem spChangesOnlyWhereListed : Obligations.SpChangesOnlyWhereListed := fun i s t h => (framed i s t h).sp

/-- Settles O48: `Frame.ime` and `Frame.cfg`. -/
theorem imeChangesOnlyWhereListed : Obligations.ImeChangesOnlyWhereListed := fun i s t h =>
  ⟨(framed i s t h).ime, (framed i s t h).cfg⟩

/-- Settles O50: an address reads its cell, and only the cells of the stored addresses change. -/
theorem memoryFrameOfEveryInstruction : Obligations.MemoryFrameOfEveryInstruction := fun i s t _ h hb =>
  (framed i s t h).mem.cell fun a ha heq => hb a ha (BitVec.eq_of_toNat_eq heq)

/-- Settles O52: no address reaches a hidden cell. -/
theorem hiddenCellsAreNeverWritten : Obligations.HiddenCellsAreNeverWritten := by
  intro s t a hstep hhidden
  refine (framed _ s t hstep).mem.cell fun _ _ => ?_
  rintro rfl
  rw [echoTranslate_not_hidden] at hhidden
  cases hhidden

end Sys2Proof.Machine
end

section
/-! PROOF. Noninterference (10_state.md rule R28, 20_memory.md rule R52): states that differ only where no access looks,
in IME or behind the echo range, step alike. One relation covers both. -/

namespace Sys2Proof.Machine

/-! ### States alike but for what no access sees -/

/-- Relations between storages and between IME values that no instruction tells apart: storages in the relation have
equal bytes at every address and are in it again after the same write, and equal values of IME are in theirs. -/
structure Unseen (M : Memory → Memory → Prop) (I : Bool → Bool → Prop) : Prop where
  read : ∀ {m m' : Memory}, M m m' → ∀ a : Word, m'.cell (echoTranslate a).toNat = m.cell (echoTranslate a).toNat
  write : ∀ {m m' : Memory}, M m m' → ∀ (a : Word) (v : Byte),
    M (m.setCell (echoTranslate a).toNat v) (m'.setCell (echoTranslate a).toNat v)
  ime : ∀ b : Bool, I b b

/-- The states are equal but for IME and storage, which are in their relations. -/
inductive Alike (M : Memory → Memory → Prop) (I : Bool → Bool → Prop) (s : State) : State → Prop
  | intro {b : Bool} {m : Memory} (hime : I s.ime b) (hmem : M s.mem m) : Alike M I s { s with ime := b, mem := m }

/-- The answers are next states that are alike, or the same fault. -/
inductive AlikeResult (M : Memory → Memory → Prop) (I : Bool → Bool → Prop) : Result → Result → Prop
  | next {t w : State} (h : Alike M I t w) : AlikeResult M I (.next t) (.next w)
  | fault (r : Fault) : AlikeResult M I (.fault r) (.fault r)

section
variable {M : Memory → Memory → Prop} {I : Bool → Bool → Prop} {s u : State}

theorem Alike.flag (h : Alike M I s u) (g : Flag) : u.flag g = s.flag g := by cases h; rfl

theorem Alike.pc (h : Alike M I s u) : u.pc = s.pc := by cases h; rfl

theorem Alike.holds (h : Alike M I s u) (cc : Cond) : u.holds cc = s.holds cc := by cases h; rfl

theorem Alike.advance (h : Alike M I s u) (n : Nat) : Alike M I (s.advance n) (u.advance n) := by
  cases h with
  | intro hime hmem => exact .intro hime hmem

theorem Alike.jump (h : Alike M I s u) (target : Word) : Alike M I (s.jump target) (u.jump target) := by
  cases h with
  | intro hime hmem => exact .intro hime hmem

theorem Alike.with_ime (h : Alike M I s u) {b : Bool} (hime : I b b) :
    Alike M I { s with ime := b } { u with ime := b } := by
  cases h with
  | intro _ hmem => exact .intro hime hmem

theorem Alike.setZnh (h : Alike M I s u) (z n hc : Bool) : Alike M I (s.setZnh z n hc) (u.setZnh z n hc) := by
  cases h with
  | intro hime hmem => exact .intro hime hmem

theorem Alike.setFlags (h : Alike M I s u) (z n hc c : Bool) :
    Alike M I (s.setFlags z n hc c) (u.setFlags z n hc c) := by
  cases h with
  | intro hime hmem => exact .intro hime hmem

variable (hU : Unseen M I)
include hU

theorem Alike.read (h : Alike M I s u) (a : Word) : u.read a = s.read a := by
  cases h with
  | intro hime hmem => exact hU.read hmem a

theorem Alike.get8 (h : Alike M I s u) (k : Operand8) : u.get8 k = s.get8 k := by
  cases k with
  | reg r => cases h; cases r <;> rfl
  | indHl =>
    cases h with
    | intro hime hmem => exact hU.read hmem s.hl

theorem Alike.getSrc (h : Alike M I s u) (src : Src8) : u.getSrc src = s.getSrc src := by
  cases src with
  | reg r => exact h.get8 hU (.reg r)
  | indHl => exact h.get8 hU .indHl
  | imm n => rfl

theorem Alike.write (h : Alike M I s u) (a : Word) (v : Byte) : Alike M I (s.write a v) (u.write a v) := by
  cases h with
  | intro hime hmem => exact .intro hime (hU.write hmem a v)

theorem Alike.set8 (h : Alike M I s u) (k : Operand8) (v : Byte) : Alike M I (s.set8 k v) (u.set8 k v) := by
  cases k with
  | reg r =>
    cases h with
    | intro hime hmem => cases r <;> exact .intro hime hmem
  | indHl =>
    cases h with
    | intro hime hmem => exact .intro hime (hU.write hmem s.hl v)

theorem Alike.push16 (h : Alike M I s u) (v : Word) : Alike M I (s.push16 v) (u.push16 v) := by
  rw [State.push16_eq, State.push16_eq]
  cases h with
  | intro hime hmem => exact .intro hime (hU.write (hU.write hmem _ _) _ _)

theorem Alike.pop16 (h : Alike M I s u) : u.pop16.1 = s.pop16.1 ∧ Alike M I s.pop16.2 u.pop16.2 := by
  have htop : stackTop u = stackTop s := by
    cases h with
    | intro hime hmem => exact congrArg₂ wordOf (hU.read hmem (s.sp + 1)) (hU.read hmem s.sp)
  rw [State.pop16_eq, State.pop16_eq]
  refine ⟨htop, ?_⟩
  cases h with
  | intro hime hmem => exact .intro hime hmem

end

/-! ### Instructions -/

/-- From states that are alike the instruction answers alike. -/
def ExecAlike (M : Memory → Memory → Prop) (I : Bool → Bool → Prop) (i : Instr) : Prop :=
  ∀ s u : State, Alike M I s u → AlikeResult M I (exec i s) (exec i u)

section
variable {M : Memory → Memory → Prop} {I : Bool → Bool → Prop}

theorem ExecAlike.of_exec {i : Instr} {f : State → State} (hexec : ∀ s, exec i s = .next (f s))
    (hf : ∀ s u, Alike M I s u → Alike M I (f s) (f u)) : ExecAlike M I i := by
  intro s u h
  rw [hexec, hexec]
  exact .next (hf s u h)

/-- An instruction that neither reads nor stores: its registers are computed from equal ones. -/
theorem ExecAlike.of_registers {i : Instr} {f : State → State} (hexec : ∀ s, exec i s = .next (f s))
    (hf : ∀ s b m, I s.ime b → M s.mem m → Alike M I (f s) (f { s with ime := b, mem := m })) : ExecAlike M I i := by
  refine .of_exec hexec fun s u h => ?_
  cases h with
  | intro hime hmem => exact hf s _ _ hime hmem

/-- An illegal byte leaves no state, and its record holds only the byte and pc. -/
theorem execAlike_illegal (op : Byte) : ExecAlike M I (.illegal op) := by
  intro s u h
  rw [exec_illegal, exec_illegal, execIllegal, execIllegal, raiseIllegalOpcode, raiseIllegalOpcode,
    raiseDesignatorFault, raiseDesignatorFault, h.pc]
  split
  · exact .fault _
  · exact .fault _

section
variable (hU : Unseen M I) {s u : State}
include hU

/-! Operations that read or store: the byte or word is the same in both states. -/

theorem Alike.alu (h : Alike M I s u) (op : AluOp) (src : Src8) : Alike M I (alu op src s) (alu op src u) := by
  rw [alu_eq, alu_eq, h.getSrc hU]
  cases h with
  | intro hime hmem => exact .intro hime hmem

theorem Alike.inc8 (h : Alike M I s u) (k : Operand8) : Alike M I (inc8 k s) (inc8 k u) := by
  rw [Machine.inc8, Machine.inc8, h.get8 hU]
  exact ((h.set8 hU k _).setZnh ..).advance 1

theorem Alike.dec8 (h : Alike M I s u) (k : Operand8) : Alike M I (dec8 k s) (dec8 k u) := by
  rw [Machine.dec8, Machine.dec8, h.get8 hU]
  exact ((h.set8 hU k _).setZnh ..).advance 1

theorem Alike.shift (h : Alike M I s u) (op : ShiftOp) (k : Operand8) : Alike M I (shift op k s) (shift op k u) := by
  rw [Machine.shift, Machine.shift, h.get8 hU, h.flag]
  exact ((h.set8 hU k _).setFlags ..).advance 2

theorem Alike.bitTest (h : Alike M I s u) (b : Fin 8) (k : Operand8) : Alike M I (bitTest b k s) (bitTest b k u) := by
  rw [Machine.bitTest, Machine.bitTest, h.get8 hU]
  exact (h.setZnh ..).advance 2

theorem Alike.bitReset (h : Alike M I s u) (b : Fin 8) (k : Operand8) :
    Alike M I (bitReset b k s) (bitReset b k u) := by
  rw [Machine.bitReset, Machine.bitReset, h.get8 hU]
  exact (h.set8 hU k _).advance 2

theorem Alike.bitSet (h : Alike M I s u) (b : Fin 8) (k : Operand8) : Alike M I (bitSet b k s) (bitSet b k u) := by
  rw [Machine.bitSet, Machine.bitSet, h.get8 hU]
  exact (h.set8 hU k _).advance 2

theorem Alike.ldReg (h : Alike M I s u) (r : Reg8) (src : Src8) : Alike M I (ldReg r src s) (ldReg r src u) := by
  rw [Machine.ldReg, Machine.ldReg, h.getSrc hU]
  exact (h.set8 hU (.reg r) _).advance _

theorem Alike.ldIndHl (h : Alike M I s u) (src : Src8) : Alike M I (ldIndHl src s) (ldIndHl src u) := by
  rw [Machine.ldIndHl, Machine.ldIndHl, h.getSrc hU]
  exact (h.set8 hU .indHl _).advance _

theorem Alike.storeA (h : Alike M I s u) (m : AddrMode) : Alike M I (storeA m s) (storeA m u) := by
  cases h with
  | intro hime hmem => cases m <;> exact .intro hime (hU.write hmem _ _)

theorem Alike.loadA (h : Alike M I s u) (m : AddrMode) : Alike M I (loadA m s) (loadA m u) := by
  rw [loadA_eq, loadA_eq, h.read hU]
  cases h with
  | intro hime hmem => cases m <;> exact .intro hime hmem

theorem Alike.storeSp (h : Alike M I s u) (nn : Word) : Alike M I (storeSp nn s) (storeSp nn u) := by
  cases h with
  | intro hime hmem => exact .intro hime (hU.write (hU.write hmem _ _) _ _)

theorem Alike.push (h : Alike M I s u) (p : StackPair) : Alike M I (push p s) (push p u) := by
  have hpair : u.getStackPair p = s.getStackPair p := by cases h; cases p <;> rfl
  rw [Machine.push, Machine.push, hpair]
  exact (h.push16 hU _).advance 1

theorem Alike.pop (h : Alike M I s u) (p : StackPair) : Alike M I (pop p s) (pop p u) := by
  obtain ⟨hword, hrest⟩ := h.pop16 hU
  rw [Machine.pop, Machine.pop, hword]
  generalize s.pop16.2 = s', u.pop16.2 = u' at hrest
  cases hrest with
  | intro hime hmem => cases p <;> exact .intro hime hmem

theorem Alike.call (h : Alike M I s u) (nn : Word) : Alike M I (call nn s) (call nn u) := by
  rw [Machine.call, Machine.call, State.nextPc, State.nextPc, h.pc]
  exact (h.push16 hU _).jump nn

theorem Alike.rst (h : Alike M I s u) (y : Fin 8) : Alike M I (rst y s) (rst y u) := by
  rw [Machine.rst, Machine.rst, State.nextPc, State.nextPc, h.pc]
  exact (h.push16 hU _).jump _

theorem Alike.popPc (h : Alike M I s u) : Alike M I (popPc s) (popPc u) := by
  obtain ⟨hword, hrest⟩ := h.pop16 hU
  rw [Machine.popPc, Machine.popPc, hword]
  exact hrest.jump _

theorem execAlike_prefixCb (cbop : Byte) : ExecAlike M I (.prefixCb cbop) := by
  intro s u h
  rw [exec_prefixCb, exec_prefixCb, execPrefixCb, execPrefixCb]
  generalize fieldX cbop = x
  match x with
  | 0 => exact .next (h.shift hU ..)
  | 1 => exact .next (h.bitTest hU ..)
  | 2 => exact .next (h.bitReset hU ..)
  | 3 => exact .next (h.bitSet hU ..)

/-- No instruction tells states apart that are alike. -/
theorem execAlike (i : Instr) : ExecAlike M I i := by
  cases shape i with
  | alu op src => exact .of_exec (exec_alu · op src) fun _ _ h => h.alu hU op src
  | inc8 k => exact .of_exec (exec_inc8 · k) fun _ _ h => h.inc8 hU k
  | dec8 k => exact .of_exec (exec_dec8 · k) fun _ _ h => h.dec8 hU k
  | shift op k => exact .of_exec (exec_shift · op k) fun _ _ h => h.shift hU op k
  | bit b k => exact .of_exec (exec_bit · b k) fun _ _ h => h.bitTest hU b k
  | res b k => exact .of_exec (exec_res · b k) fun _ _ h => h.bitReset hU b k
  | set b k => exact .of_exec (exec_set · b k) fun _ _ h => h.bitSet hU b k
  | ldReg r src => exact .of_exec (exec_ldReg · r src) fun _ _ h => h.ldReg hU r src
  | ldIndHl r => exact .of_exec (exec_ldIndHl · r) fun _ _ h => h.ldIndHl hU (.reg r)
  | ldIndHlD8 n => exact .of_exec (exec_ldIndHlD8 · n) fun _ _ h => h.ldIndHl hU (.imm n)
  | storeA m => exact .of_exec (exec_storeA · m) fun _ _ h => h.storeA hU m
  | loadA m => exact .of_exec (exec_loadA · m) fun _ _ h => h.loadA hU m
  | ldIndA16Sp nn => exact .of_exec (exec_ldIndA16Sp · nn) fun _ _ h => h.storeSp hU nn
  | push p => exact .of_exec (exec_push · p) fun _ _ h => h.push hU p
  | pop p => exact .of_exec (exec_pop · p) fun _ _ h => h.pop hU p
  | callA16 nn => exact .of_exec (exec_callA16 · nn) fun _ _ h => h.call hU nn
  | rst y => exact .of_exec (exec_rst · y) fun _ _ h => h.rst hU y
  | ret => exact .of_exec exec_ret fun _ _ h => h.popPc hU
  | reti => exact .of_exec exec_reti fun _ _ h => (h.popPc hU).with_ime (hU.ime true)
  | callCond cc nn =>
    refine .of_exec (exec_callCond · cc nn) fun s u h => ?_
    rw [callCond, callCond, h.holds]
    split
    · exact h.call hU nn
    · exact h.advance 3
  | retCond cc =>
    refine .of_exec (exec_retCond · cc) fun s u h => ?_
    rw [retCond, retCond, h.holds]
    split
    · exact h.popPc hU
    · exact h.advance 1
  | di => exact .of_exec exec_di fun _ _ h => (h.with_ime (hU.ime false)).advance 1
  | ei => exact .of_exec exec_ei fun _ _ h => (h.with_ime (hU.ime true)).advance 1
  | jpCond cc nn => exact .of_registers (exec_ofJpCond cc nn) fun _ _ _ hime hmem => .intro hime hmem
  | jrCond cc e => exact .of_registers (exec_ofJrCond cc e) fun _ _ _ hime hmem => .intro hime hmem
  | addHl p => exact .of_registers (exec_addHl · p) fun _ _ _ hime hmem => by cases p <;> exact .intro hime hmem
  | inc16 p => exact .of_registers (exec_inc16 · p) fun _ _ _ hime hmem => by cases p <;> exact .intro hime hmem
  | dec16 p => exact .of_registers (exec_dec16 · p) fun _ _ _ hime hmem => by cases p <;> exact .intro hime hmem
  | ldPair p nn => exact .of_registers (exec_ldPair · p nn) fun _ _ _ hime hmem => by cases p <;> exact .intro hime hmem
  | illegal op => exact execAlike_illegal op
  | prefixCb cbop => exact execAlike_prefixCb hU cbop
  | addSpE8 | rlca | rrca | rla | rra | ldSpHl | ldHlSpE8 | jpA16 | jpHl | jrE8 | nop | halt | stop | daa | cpl | scf
  | ccf =>
    rintro s _ ⟨hime, hmem⟩
    exact .next (.intro hime hmem)

/-- The three bytes at pc are the same, so the step runs the same instruction. -/
theorem step_alike (h : Alike M I s u) : AlikeResult M I (step s) (step u) := by
  rw [step, step, h.pc, h.read hU, h.read hU, h.read hU]
  exact execAlike hU _ s u h

end

end

/-! ### The statements -/

theorem unseen_ime : Unseen Eq fun _ _ => True where
  read h _ := h ▸ rfl
  write h _ _ := h ▸ rfl
  ime _ := trivial

theorem mapNext_eq_of_alike {r r' : Result} (h : AlikeResult Eq (fun _ _ => True) r r') :
    mapNext (fun t => { t with ime := false }) r' = mapNext (fun t => { t with ime := false }) r := by
  cases h with
  | next h =>
    cases h with
    | intro _ hmem =>
      subst hmem
      rfl
  | fault r => rfl

/-- Settles O49: states that differ only in IME are alike with equal storages, and so are the answers. -/
theorem imeIsReadByNothing : Obligations.ImeIsReadByNothing := fun _ _ =>
  mapNext_eq_of_alike (step_alike unseen_ime (.intro trivial rfl))

/-- The storages are equal outside the cells behind the echo range. -/
def EqualOutsideHidden (m m' : Memory) : Prop := ∀ a, hiddenCell a = false → m'.cell a = m.cell a

theorem unseen_hidden : Unseen EqualOutsideHidden fun b b' => b' = b where
  read h a := h _ (echoTranslate_not_hidden a)
  write h a v k hk := by rw [Memory.cell_setCell, Memory.cell_setCell, h k hk]
  ime _ := rfl

theorem agreeOutsideHidden_iff (s u : State) :
    agreeOutsideHidden s u ↔ Alike EqualOutsideHidden (fun b b' => b' = b) s u := by
  constructor
  · rintro ⟨hregs, hmem⟩
    rw [hregs]
    exact .intro rfl hmem
  · rintro ⟨rfl, hmem⟩
    exact ⟨rfl, hmem⟩

/-- Settles O53: the agreement of the statement is the relation with equal IME, and so is that of the answers. -/
theorem hiddenCellsAreNeverRead : Obligations.HiddenCellsAreNeverRead := by
  intro s u hagree
  have hstep := step_alike unseen_hidden ((agreeOutsideHidden_iff s u).1 hagree)
  generalize step s = r, step u = r' at hstep
  cases hstep with
  | next h => exact .inl ⟨_, _, rfl, rfl, (agreeOutsideHidden_iff ..).2 h⟩
  | fault r => exact .inr ⟨r, rfl, rfl⟩

end Sys2Proof.Machine
end
